-- ==== Sys2Proof/Word.lean ====
section
/-! DEFINITION. The widths of the block's values (00_scope.md R10): every value is unsigned, and `uN` is the
type of N-bit values. -/

namespace Sys2Proof

/-- A waveform sample, the audio output, the SHAPE byte (10_state.md R23, R32). -/
abbrev U8 := BitVec 8

/-- An analog reading, 0..1023 (10_state.md R40). -/
abbrev U10 := BitVec 10

/-- A phase, an increment, the tick counter, the smoothing accumulator (10_state.md R20, R21, R24, R30). -/
abbrev U16 := BitVec 16

end Sys2Proof
end

