-- ==== Sys2Proof/Machine/Codes.lean ====
section
/-! DEFINITION. The enumerated values of the block and their codes (30_encoding.md R80, R81, R82), the two voices
(10_state.md R20) and the output events (00_scope.md R6). -/

namespace Sys2Proof

/-- The two oscillator voices (00_scope.md section 6): voice 1 has the base pitch, voice 2 base plus offset. -/
inductive Voice where
  | one
  | two
  deriving DecidableEq, Repr

/-- A WaveformShape, in the cyclic order of the source (R80). -/
inductive Waveform where
  | sawtooth
  | square
  | triangle
  | sine
  deriving DecidableEq, Repr

/-- The shape that SHAPE[1:0] names. All four codes are legal (R80). -/
def Waveform.ofCode (code : BitVec 2) : Waveform :=
  match code.toNat with
  | 0 => .sawtooth
  | 1 => .square
  | 2 => .triangle
  | _ => .sine

/-- The code of a shape (R80). -/
def Waveform.code : Waveform → BitVec 2
  | .sawtooth => 0
  | .square => 1
  | .triangle => 2
  | .sine => 3

/-- A virtual-button value (R81). -/
inductive Button where
  | none
  | left
  | right
  | both
  deriving DecidableEq, Repr

/-- The code of a virtual-button value, which ranks them none < left < right < both (R81). -/
def Button.code : Button → BitVec 2
  | .none => 0
  | .left => 1
  | .right => 2
  | .both => 3

/-- `max` on codes, the source's "maximum virtual-button value" (R81). -/
def Button.max (a b : Button) : Button := if a.code.toNat ≤ b.code.toNat then b else a

/-- The state of the gesture machine, `G_PHASE` (10_state.md R33, 30_encoding.md R82). -/
inductive GesturePhase where
  | notPressed
  | pressed
  deriving DecidableEq, Repr

/-- The code of `G_PHASE` (R82). -/
def GesturePhase.code : GesturePhase → BitVec 1
  | .notPressed => 0
  | .pressed => 1

/-- What the block shows outside (00_scope.md R6, 10_state.md R41). -/
inductive Event where
  /-- `emit AUDIO(v)`: `v` was written to AUDIO_OUT. -/
  | audio (v : U8)
  /-- `emit FB(s)`: the visual feedback collaborator was notified with shape code `s`. -/
  | feedback (s : BitVec 2)
  /-- The gesture result a gesture poll returned. -/
  | gesture (result : Button)
  /-- The value an `RD.TICKS` returned. -/
  | tickCount (v : U16)
  deriving DecidableEq, Repr

/-- The byte of INC1 or INC2 that a byte-wise publication has still to write (20_memory.md R63). -/
structure ByteWrite where
  /-- Whose increment. -/
  voice : Voice
  /-- Byte 1 (bits 15:8) rather than byte 0 (bits 7:0), R59. -/
  high : Bool
  deriving DecidableEq, Repr

end Sys2Proof
end

