-- ==== Sys2Proof/Config.lean ====
section
/-! DEFINITION. The parameters of the block (00_scope.md R7) and the free values the spec leaves open.
The parameters are plain data in the field `cfg` of `State`, so that a statement quantifies over all of them. -/

namespace Sys2Proof

/-- The three read-only table spaces (20_memory.md R50). -/
inductive TableId where
  | sine
  | note
  | detune
  deriving DecidableEq, Repr

/-- The implementation parameters (00_scope.md R7). The table sizes of R8 items 1 to 3 and the ranges of their
entries are in the types; the other constraints of R8 are `Config.wf`. -/
structure Config where
  /-- `SINE_TABLE`, 256 entries of 8 bits (20_memory.md R52). -/
  sineTable : Vector U8 256
  /-- `NOTE_TABLE`, 73 entries of 16 bits (20_memory.md R54). -/
  noteTable : Vector U16 73
  /-- `DETUNE_CURVE`, 33 entries of 16 bits (20_memory.md R56). -/
  detuneCurve : Vector U16 33
  /-- `SCALE_NUM`, the source's Vcc of the rescale formula; OPEN. -/
  scaleNum : Nat
  /-- `SCALE_DEN`, the source's Vdiv of the rescale formula; OPEN. -/
  scaleDen : Nat
  /-- `V_RELEASE`, the release threshold; OPEN. -/
  vRelease : Nat
  /-- `V_PRESS`, the press threshold; OPEN. -/
  vPress : Nat
  /-- `V_LEFT`, the upper edge of the left band; OPEN. -/
  vLeft : Nat
  /-- `V_RIGHT`, the upper edge of the right band; OPEN. -/
  vRight : Nat
  /-- `V_BOTH`, the upper edge of the both band; OPEN. -/
  vBoth : Nat
  /-- `CLASSIFY_ON_ENTRY`: the poll that starts a press also classifies its reading. -/
  classifyOnEntry : Bool
  /-- `ATOMIC16`: a 16-bit shared register is written as one event. -/
  atomic16 : Bool
  deriving DecidableEq, Repr

/-- Free value: what AUDIO_OUT holds after RESET and before the first TICK, for which the spec has no defined
value (10_state.md R32; 93_implementation_defined.md U7, "any value"). Taken at `State.freeCtr`. -/
opaque Config.freeAudio : Nat → U8

/-- Free value: the answer where the spec leaves an order open (20_memory.md R59, R63) and the environment's list
`State.choices` holds none. Taken at `State.freeCtr`. -/
opaque Config.freeChoice : Nat → Bool

/-- Free value: an element outside a table's index range, where `TableRead` is not defined (20_memory.md R51).
By R58 no run asks for one. A function of the table, the width and the index, since a table is immutable. -/
opaque Config.freeEntry (T : TableId) (w i : Nat) : BitVec w

end Sys2Proof
end

