-- ==== Sys2Proof/Machine/Tables.lean ====
section
/-! DEFINITION. The spec's default values of the three tables (20_memory.md R53, R55, R57: the literal lists are
normative defaults and the spec's own choice, decisions D7 to D9) and the two test configurations of 00_scope.md R9. -/

namespace Sys2Proof

/-- The list of 20_memory.md R53. -/
def defaultSineEntries : List U8 :=
  [128, 131, 134, 137, 140, 143, 146, 149, 152, 155, 158, 162, 165, 167, 170, 173] ++
  [176, 179, 182, 185, 188, 190, 193, 196, 198, 201, 203, 206, 208, 211, 213, 215] ++
  [218, 220, 222, 224, 226, 228, 230, 232, 234, 235, 237, 238, 240, 241, 243, 244] ++
  [245, 246, 248, 249, 250, 250, 251, 252, 253, 253, 254, 254, 254, 255, 255, 255] ++
  [255, 255, 255, 255, 254, 254, 254, 253, 253, 252, 251, 250, 250, 249, 248, 246] ++
  [245, 244, 243, 241, 240, 238, 237, 235, 234, 232, 230, 228, 226, 224, 222, 220] ++
  [218, 215, 213, 211, 208, 206, 203, 201, 198, 196, 193, 190, 188, 185, 182, 179] ++
  [176, 173, 170, 167, 165, 162, 158, 155, 152, 149, 146, 143, 140, 137, 134, 131] ++
  [128, 124, 121, 118, 115, 112, 109, 106, 103, 100, 97, 93, 90, 88, 85, 82] ++
  [79, 76, 73, 70, 67, 65, 62, 59, 57, 54, 52, 49, 47, 44, 42, 40] ++
  [37, 35, 33, 31, 29, 27, 25, 23, 21, 20, 18, 17, 15, 14, 12, 11] ++
  [10, 9, 7, 6, 5, 5, 4, 3, 2, 2, 1, 1, 1, 0, 0, 0] ++
  [0, 0, 0, 0, 1, 1, 1, 2, 2, 3, 4, 5, 5, 6, 7, 9] ++
  [10, 11, 12, 14, 15, 17, 18, 20, 21, 23, 25, 27, 29, 31, 33, 35] ++
  [37, 40, 42, 44, 47, 49, 52, 54, 57, 59, 62, 65, 67, 70, 73, 76] ++
  [79, 82, 85, 88, 90, 93, 97, 100, 103, 106, 109, 112, 115, 118, 121, 124]

/-- The list of 20_memory.md R55. -/
def defaultNoteEntries : List U16 :=
  [214, 227, 241, 255, 270, 286, 303, 321, 340, 360, 382, 405, 429, 454, 481, 510] ++
  [540, 572, 606, 642, 680, 721, 764, 809, 857, 908, 962, 1020, 1080, 1144, 1212, 1284] ++
  [1361, 1442, 1528, 1618, 1715, 1817, 1925, 2039, 2160, 2289, 2425, 2569, 2722, 2884, 3055, 3237] ++
  [3429, 3633, 3849, 4078, 4320, 4577, 4850, 5138, 5443, 5767, 6110, 6473, 6858, 7266, 7698, 8156] ++
  [8641, 9155, 9699, 10276, 10887, 11534, 12220, 12947, 13717]

/-- The list of 20_memory.md R57. -/
def defaultDetuneEntries : List U16 :=
  [0, 0, 2, 4, 8, 12, 18, 24, 32, 40, 50, 60, 72, 84, 98, 112] ++
  [128, 144, 162, 180, 200, 220, 242, 264, 288, 312, 338, 364, 392, 420, 450, 480] ++
  [512]

/-- The default `SINE_TABLE`. -/
def defaultSineTable : Vector U8 256 := ⟨defaultSineEntries.toArray, by decide +kernel⟩

/-- The default `NOTE_TABLE`. -/
def defaultNoteTable : Vector U16 73 := ⟨defaultNoteEntries.toArray, by decide +kernel⟩

/-- The default `DETUNE_CURVE`. -/
def defaultDetuneCurve : Vector U16 33 := ⟨defaultDetuneEntries.toArray, by decide +kernel⟩

/-- The test configuration T0 (00_scope.md R9): default tables and default `CLASSIFY_ON_ENTRY` and `ATOMIC16`, with
the spec's fixed point for the OPEN parameters. "`T0` is not a claim about the hardware". -/
def configT0 : Config where
  sineTable := defaultSineTable
  noteTable := defaultNoteTable
  detuneCurve := defaultDetuneCurve
  scaleNum := 1
  scaleDen := 1
  vRelease := 450
  vPress := 380
  vLeft := 380
  vRight := 300
  vBoth := 224
  classifyOnEntry := false
  atomic16 := true

/-- The test configuration T1 (00_scope.md R9): T0 with `SCALE_NUM = 5`, `SCALE_DEN = 4`. -/
def configT1 : Config := { configT0 with scaleNum := 5, scaleDen := 4 }

end Sys2Proof
end

