-- ==== Sys2Proof/Syntax.lean ====
section
/-! DEFINITION. The operations of the block: one constructor of `Instr` per row of spec/opcode_table.json
(30_encoding.md R84, R87), the two word formats they are written in, and the lines of the spec's assembler
syntax (R94, R95). -/

namespace Sys2Proof

/-- The operations. A reading is an operand of its operation (10_state.md R40), 10 bits wide, and every 10-bit
pattern is a legal reading (30_encoding.md R85). -/
inductive Instr where
  /-- `NOP`, R167. -/
  | nop
  /-- `TICK`, R160. -/
  | tick
  /-- `POLL.CTRL RAW_PITCH, RAW_DETUNE`, R130. -/
  | pollCtrl (rawPitch rawDetune : U10)
  /-- `CTRL.EVAL RAW_PITCH, RAW_DETUNE`, R127. -/
  | ctrlEval (rawPitch rawDetune : U10)
  /-- `WR.INC1`, R128. -/
  | wrInc1
  /-- `WR.INC2`, R129. -/
  | wrInc2
  /-- `POLL.GEST RAW_BUTTON`, R144. -/
  | pollGest (rawButton : U10)
  /-- `RD.TICKS`, R165. -/
  | rdTicks
  /-- `RESET`, R168. -/
  | reset
  /-- `WAVE.SAW`, R104: a micro-operation, selected by SHAPE[1:0] = 0. -/
  | waveSaw
  /-- `WAVE.SQR`, R105: a micro-operation, selected by SHAPE[1:0] = 1. -/
  | waveSqr
  /-- `WAVE.TRI`, R106: a micro-operation, selected by SHAPE[1:0] = 2. -/
  | waveTri
  /-- `WAVE.SIN`, R107: a micro-operation, selected by SHAPE[1:0] = 3. -/
  | waveSin
  deriving DecidableEq, Repr

/-- A word that selects an operation, in one of the two formats of spec/opcode_table.json. -/
inductive FetchWord where
  /-- `CMD24`: one top-level operation (30_encoding.md R83). -/
  | cmd (w : BitVec 24)
  /-- `SHAPE2`: a byte as the SHAPE register holds it, bits 1:0 naming a waveform micro-operation
  (30_encoding.md R80, R87). -/
  | selector (b : U8)
  deriving DecidableEq, Repr

/-- Who issues an operation (00_scope.md R5; the column `agent` of 30_encoding.md R84). -/
inductive Agent where
  | tick
  | foreground
  | environment
  deriving DecidableEq, Repr

/-- A line of the spec's assembler syntax (30_encoding.md R94) and its pseudo-instructions (R95). Operands are the
numbers written in the text; whether they are readings is `AsmLine.wf`. -/
inductive AsmLine where
  | nop
  | tick
  | pollCtrl (pitch detune : Nat)
  | ctrlEval (pitch detune : Nat)
  | wrInc1
  | wrInc2
  | pollGest (voltage : Nat)
  | rdTicks
  | reset
  /-- `ticks n`: n TICKs. -/
  | ticks (n : Nat)
  /-- `wait.ms n`: 10 * n TICKs. -/
  | waitMs (n : Nat)
  /-- `poll pitch, detune, voltage`: one iteration of the foreground loop. -/
  | poll (pitch detune voltage : Nat)
  deriving DecidableEq, Repr

end Sys2Proof
end

