-- ==== Sys2Proof/Machine/State.lean ====
section
/-! DEFINITION. The state of the machine (10_state.md), the reasons a step can stop, and the state after reset
(70_reset_and_hazards.md R200). -/

namespace Sys2Proof.Machine

/-- The faults of the block: none. "The complete list of exception causes is therefore empty" (60_exceptions.md
R180), so the type has no constructor and no step can answer with a fault. -/
inductive Fault where
  deriving DecidableEq, Repr

/-- Why the model gives no next state. None of these is an event of the hardware. -/
inductive Refusal where
  /-- Raised by an arm of `exec` for an operation that has no meaning yet. Safe. -/
  | notModelled (mnemonic : String)
  /-- Raised by `step` when the next word is reserved (30_encoding.md R93: "the model refuses to step"). Safe. -/
  | reservedWord (w : FetchWord)
  /-- Raised by `step` when the configuration breaks 00_scope.md R8 ("A model rejects a configuration that breaks
  one of them"; 93_implementation_defined.md U3). Safe. -/
  | badConfig
  deriving DecidableEq, Repr

/-- The state. The registers are those of 10_state.md; the block has no program counter, no memory beside its
tables, no condition codes and no saved context (R38, R39, R43). -/
structure State where
  /-- `PHASE1`, R20. -/
  phase1 : U16
  /-- `PHASE2`, R20. -/
  phase2 : U16
  /-- `INC1`, R21. -/
  inc1 : U16
  /-- `INC2`, R21. -/
  inc2 : U16
  /-- `SHAPE`, R23: a byte, bits 7:2 always 0. -/
  shape : U8
  /-- `TICKS`, R24. -/
  ticks : U16
  /-- `AUDIO_OUT`, R32. -/
  audioOut : U8
  /-- `EMA_ACC`, R30. -/
  emaAcc : U16
  /-- `EMA_INIT`, R31. -/
  emaInit : Bool
  /-- `G_PHASE`, R33. -/
  gPhase : GesturePhase
  /-- `G_PEAK`, R34. -/
  gPeak : Button
  /-- `STG_INC1`, R35. -/
  stgInc1 : U16
  /-- `STG_INC2`, R35. -/
  stgInc2 : U16
  /-- With `ATOMIC16 = false`: the second byte write of a publication the foreground is inside of (20_memory.md R63). -/
  tornWrite : Option ByteWrite
  /-- The sample temporary `s1` of 43_sample_tick.md R160. The model's own field. -/
  s1 : U8
  /-- The sample temporary `s2` of 43_sample_tick.md R160. The model's own field. -/
  s2 : U8
  /-- The parameters and tables (00_scope.md R7). No step changes them. -/
  cfg : Config
  /-- The command stream still to be taken, next word first (30_encoding.md R96). -/
  stream : List FetchWord
  /-- The observation so far, oldest first (00_scope.md R6). -/
  events : List Event
  /-- The environment's answers where the spec leaves an order open (20_memory.md R59, R63). The model's own field. -/
  choices : List Bool
  /-- Where the next free value is taken. The model's own field. -/
  freeCtr : Nat
  deriving DecidableEq, Repr

/-- The reset state of 70_reset_and_hazards.md R200 under a configuration. AUDIO_OUT has no defined value there:
DESIGN CHOICE 0 (log 6), on which no statement rests. -/
def State.resetWith (c : Config) : State where
  phase1 := 0
  phase2 := 0
  inc1 := 0
  inc2 := 0
  shape := 0
  ticks := 0
  audioOut := 0
  emaAcc := 0
  emaInit := false
  gPhase := .notPressed
  gPeak := .none
  stgInc1 := 0
  stgInc2 := 0
  tornWrite := none
  s1 := 0
  s2 := 0
  cfg := c
  stream := []
  events := []
  choices := []
  freeCtr := 0

/-- The machine right after reset. The parameters are OPEN (00_scope.md R7); DESIGN CHOICE test configuration T0 of
R9 (log 2), on which no statement rests. -/
def State.reset : State := State.resetWith configT0

end Sys2Proof.Machine
end

