-- ==== Sys2Proof/Machine/Flags.lean ====
section
/-! DEFINITION. The block has no condition codes: no operation leaves a carry, zero, negative or overflow flag
(10_state.md R39). Its only one-bit status values are EMA_INIT and G_PHASE, and neither is set as a side effect of
an arithmetic result; these are their updates. -/

namespace Sys2Proof.Machine

/-- `EMA_INIT <- 1`: SMOOTH has run since reset (R31). Nothing but RESET clears it. -/
def State.markSmoothed (s : State) : State := { s with emaInit := true }

/-- `G_PHASE <- p` (R33). -/
def State.setGPhase (s : State) (p : GesturePhase) : State := { s with gPhase := p }

end Sys2Proof.Machine
end

