-- ==== Sys2Proof/Machine/Operands.lean ====
section
/-! DEFINITION. How the operations take their operands: readings as they stand (30_encoding.md R85), the slices of a
phase (00_scope.md R11), SHAPE[1:0], and the bytes of a 16-bit register (20_memory.md R59). The block has no other
operand form (30_encoding.md R83, 43_sample_tick.md R169). -/

namespace Sys2Proof.Machine

/-- A reading as the unsigned integer it stands for, `zext` (R85). -/
def reading (raw : U10) : Nat := raw.toNat

/-- "the high byte", `v[15:8]` (R11). -/
def highByte (v : U16) : U8 := v.extractLsb' 8 8

/-- "the low byte", `v[7:0]` (R11). -/
def lowByte (v : U16) : U8 := v.extractLsb' 0 8

/-- "the most-significant bit", `v[15]` (R11). -/
def topBit (v : U16) : Bool := v.getLsbD 15

/-- `trunc_8(phase >> 7)`, which is `phase[14:7]` (40_oscillator.md R106). -/
def rampBits (v : U16) : U8 := v.extractLsb' 7 8

/-- `SHAPE[1:0]` (30_encoding.md R80). -/
def shapeCode (shape : U8) : BitVec 2 := shape.extractLsb' 0 2

/-- `old` with byte 1 (`high`) or byte 0 taken from `new` (R59). -/
def replaceByte (high : Bool) (old new : U16) : U16 :=
  if high then highByte new ++ lowByte old else highByte old ++ lowByte new

end Sys2Proof.Machine
end

