-- ==== Sys2Proof/Machine/Ops.lean ====
section
/-! DEFINITION. The named operations over registers, tables and outputs that the meanings share. -/

namespace Sys2Proof.Machine

/-- `PHASEn` (10_state.md R20). -/
def State.phase (s : State) : Voice → U16
  | .one => s.phase1
  | .two => s.phase2

/-- `INCn` (R21). -/
def State.inc (s : State) : Voice → U16
  | .one => s.inc1
  | .two => s.inc2

/-- `STG_INCn` (R35). -/
def State.stg (s : State) : Voice → U16
  | .one => s.stgInc1
  | .two => s.stgInc2

/-- `PHASEn <- x`. -/
def State.setPhase (s : State) (v : Voice) (x : U16) : State :=
  match v with
  | .one => { s with phase1 := x }
  | .two => { s with phase2 := x }

/-- `INCn <- x`, one 16-bit write. -/
def State.setInc (s : State) (v : Voice) (x : U16) : State :=
  match v with
  | .one => { s with inc1 := x }
  | .two => { s with inc2 := x }

/-- `TICKS <- x`. -/
def State.setTicks (s : State) (x : U16) : State := { s with ticks := x }

/-- `SHAPE <- x`, one byte write (20_memory.md R67). -/
def State.setShape (s : State) (x : U8) : State := { s with shape := x }

/-- `G_PEAK <- b`. -/
def State.setGPeak (s : State) (b : Button) : State := { s with gPeak := b }

/-- The sample temporaries of 43_sample_tick.md R160. -/
def State.setSamples (s : State) (x y : U8) : State := { s with s1 := x, s2 := y }

/-- An output event, the latest at the end of the observation (00_scope.md R6). -/
def State.emit (s : State) (e : Event) : State := { s with events := s.events ++ [e] }

/-- `AUDIO_OUT <- x`: every write is the event `AUDIO(x)` (10_state.md R32). -/
def State.writeAudio (s : State) (x : U8) : State := { s with audioOut := x }.emit (.audio x)

/-- `TableRead(T, i)` (20_memory.md R51). Outside the index range it is not defined: a free value (log 13). -/
def tableRead {w n : Nat} (T : TableId) (t : Vector (BitVec w) n) (i : Nat) : BitVec w :=
  if h : i < n then t[i] else Config.freeEntry T w i

/-- `TableRead(SINE_TABLE, i)`. -/
def readSine (c : Config) (i : Nat) : U8 := tableRead .sine c.sineTable i

/-- `TableRead(NOTE_TABLE, i)`. -/
def readNote (c : Config) (i : Nat) : U16 := tableRead .note c.noteTable i

/-- `TableRead(DETUNE_CURVE, i)`. -/
def readDetune (c : Config) (i : Nat) : U16 := tableRead .detune c.detuneCurve i

/-- An answer where the spec leaves an order open: the environment's next one, or a free value (log 10). -/
def State.choice (s : State) : Bool :=
  match s.choices with
  | b :: _ => b
  | [] => Config.freeChoice s.freeCtr

/-- The state once that answer is taken. -/
def State.afterChoice (s : State) : State :=
  match s.choices with
  | _ :: rest => { s with choices := rest }
  | [] => { s with freeCtr := s.freeCtr + 1 }

/-- One byte of `INCn <- STG_INCn` (20_memory.md R63). -/
def State.writeIncByte (s : State) (b : ByteWrite) : State :=
  s.setInc b.voice (replaceByte b.high (s.inc b.voice) (s.stg b.voice))

/-- `INCn <- STG_INCn` as one atomic write (41_control_mapper.md R128, R129). -/
def State.publishWhole (s : State) (v : Voice) : State := s.setInc v (s.stg v)

/-- The first of the two byte writes of `INCn <- STG_INCn`, in the order the answer gives (true: byte 1 first); the
other byte is left to be written (20_memory.md R63, R59). -/
def State.publishFirstByte (s : State) (v : Voice) : State :=
  let high := s.choice
  { s.afterChoice.writeIncByte ⟨v, high⟩ with tornWrite := some ⟨v, !high⟩ }

/-- The second byte write; the publication ends (20_memory.md R63). -/
def State.publishSecondByte (s : State) (b : ByteWrite) : State :=
  { s.writeIncByte b with tornWrite := none }

/-- A publication step: atomic with `ATOMIC16 = true`, else its first byte write (20_memory.md R63). -/
def State.publish (s : State) (v : Voice) : State :=
  if s.cfg.atomic16 then s.publishWhole v else s.publishFirstByte v

/-- Entering the tick context, the block's only exception-like entry: it "saves and changes nothing in the state of
the block", and there is no vector (60_exceptions.md R185). -/
def State.enterTick (s : State) : State := s

/-- Returning from the tick context: "nothing is restored because nothing was saved" (60_exceptions.md R186). -/
def State.leaveTick (s : State) : State := s

/-- `RESET` (70_reset_and_hazards.md R200): every register to its reset value, and a step in progress discarded
(60_exceptions.md R184). AUDIO_OUT has no defined value: a free value. The tables and parameters are no state; the
stream, the observation and the environment's answers are outside the block and stay. -/
def State.resetRegisters (s : State) : State :=
  { State.resetWith s.cfg with
    audioOut := Config.freeAudio s.freeCtr
    stream := s.stream
    events := s.events
    choices := s.choices
    freeCtr := s.freeCtr + 1 }

end Sys2Proof.Machine
end

