-- ==== Sys2Proof/Machine/ControlMapper.lean ====
section
/-! DEFINITION. The control mapper (41_control_mapper.md). The intermediates are exact integers, as 43_sample_tick.md
R170 tabulates them; only the values stored in registers are reduced. -/

namespace Sys2Proof.Machine

/-- `RESCALE(raw)`, R120: `min(1023, (raw * SCALE_NUM) div SCALE_DEN)`. -/
def rescale (c : Config) (raw : U10) : Nat := min 1023 (reading raw * c.scaleNum / c.scaleDen)

/-- The new EMA_ACC of `SMOOTH(v)`, R121. -/
def smoothAcc (s : State) (v : Nat) : U16 :=
  if s.emaInit then BitVec.ofNat 16 (s.emaAcc.toNat + v - s.emaAcc.toNat / 16) else BitVec.ofNat 16 (v * 16)

/-- The effect of `SMOOTH(v)` on EMA_ACC and EMA_INIT, R121. -/
def smooth (v : Nat) (s : State) : State := { s with emaAcc := smoothAcc s v }.markSmoothed

/-- The result of SMOOTH, `EMA_ACC >> 4` of the new EMA_ACC, R121. -/
def smoothed (s : State) : Nat := s.emaAcc.toNat / 16

/-- `QUANT(s)`, R122: `(s * 72) div 1023`. -/
def quant (x : Nat) : Nat := x * 72 / 1023

/-- `NOTE.LOOKUP(idx)`, R123. -/
def noteLookup (c : Config) (idx : Nat) : U16 := readNote c idx

/-- `DET.INTERP(d)`, R124: the shift applies to the product only. -/
def detInterp (c : Config) (d : Nat) : Nat :=
  let v1 := (readDetune c (d / 32)).toNat
  let v2 := (readDetune c (d / 32 + 1)).toNat
  v1 + (v2 - v1) * (d % 32) / 32

/-- `DET.OFFSET(base, c)`, R125: `(base * c) >> 10`. -/
def detOffset (base c : Nat) : Nat := base * c / 1024

/-- The base increment of a smoothed reading: NOTE.LOOKUP of QUANT (R127). -/
def baseIncrement (c : Config) (x : Nat) : U16 := noteLookup c (quant x)

/-- Voice 2's increment, `(base + off) mod 65536` (R127). -/
def detunedIncrement (c : Config) (base : U16) (d : Nat) : U16 :=
  BitVec.ofNat 16 (base.toNat + detOffset base.toNat (detInterp c d))

/-- `CTRL.EVAL`, R127. -/
def ctrlEval (rawPitch rawDetune : U10) (s : State) : State :=
  let t := smooth (rescale s.cfg rawPitch) s
  let base := baseIncrement s.cfg (smoothed t)
  { t with stgInc1 := base, stgInc2 := detunedIncrement s.cfg base (rescale s.cfg rawDetune) }

/-- `POLL.CTRL`, R130: CTRL.EVAL, WR.INC1, WR.INC2 with no TICK between them, so each publication is whole (log 11). -/
def pollCtrl (rawPitch rawDetune : U10) (s : State) : State :=
  ((ctrlEval rawPitch rawDetune s).publishWhole .one).publishWhole .two

/-- `CTRL.EVAL RAW_PITCH, RAW_DETUNE`, R127. -/
def execCtrlEval (rawPitch rawDetune : U10) (s : State) : Host.Outcome State Fault Refusal :=
  .next (ctrlEval rawPitch rawDetune s)

/-- `WR.INC1`, R128: `INC1 <- STG_INC1`. -/
def execWrInc1 (s : State) : Host.Outcome State Fault Refusal := .next (s.publish .one)

/-- `WR.INC2`, R129: `INC2 <- STG_INC2`. -/
def execWrInc2 (s : State) : Host.Outcome State Fault Refusal := .next (s.publish .two)

/-- `POLL.CTRL RAW_PITCH, RAW_DETUNE`, R130. -/
def execPollCtrl (rawPitch rawDetune : U10) (s : State) : Host.Outcome State Fault Refusal :=
  .next (pollCtrl rawPitch rawDetune s)

end Sys2Proof.Machine
end

