-- ==== Sys2Proof/Machine/Gesture.lean ====
section
/-! DEFINITION. The gesture detector (42_gesture_detector.md): the voltage-band classifier, the two-state machine, the
shape selector and the feedback event. -/

namespace Sys2Proof.Machine

/-- `CLASSIFY(v)`, R140. -/
def classify (c : Config) (v : U10) : Button :=
  if reading v < c.vBoth then .both
  else if reading v < c.vRight then .right
  else if reading v < c.vLeft then .left
  else .none

/-- What a poll that starts a press leaves in G_PEAK (R141): none, or with `CLASSIFY_ON_ENTRY` the entry reading's
class. -/
def entryPeak (c : Config) (v : U10) : Button := if c.classifyOnEntry then classify c v else .none

/-- `GEST.STEP(v)` in state NotPressed, R141. -/
def gestNotPressed (v : U10) (s : State) : State :=
  if reading v < s.cfg.vPress then (s.setGPeak (entryPeak s.cfg v)).setGPhase .pressed else s.setGPeak .none

/-- `GEST.STEP(v)` in state Pressed with `v <= V_RELEASE`, R142. -/
def gestHeld (v : U10) (s : State) : State := s.setGPeak (s.gPeak.max (classify s.cfg v))

/-- `GEST.STEP(v)` in state Pressed with `v > V_RELEASE`, R143. G_PEAK keeps its value. -/
def gestReleased (s : State) : State := s.setGPhase .notPressed

/-- The effect of `GEST.STEP(v)` on G_PHASE and G_PEAK: exactly one of R141, R142, R143. -/
def gestStep (v : U10) (s : State) : State :=
  match s.gPhase with
  | .notPressed => gestNotPressed v s
  | .pressed => if s.cfg.vRelease < reading v then gestReleased s else gestHeld v s

/-- The result of `GEST.STEP(v)`: the retained peak on release (R143), else none (R141, R142). -/
def gestResult (v : U10) (s : State) : Button :=
  match s.gPhase with
  | .notPressed => .none
  | .pressed => if s.cfg.vRelease < reading v then s.gPeak else .none

/-- `SHAPE.NEXT`, R145: `SHAPE <- (SHAPE + 1) mod 4`. -/
def shapeNext (s : State) : State := s.setShape (BitVec.ofNat 8 ((s.shape.toNat + 1) % 4))

/-- What a poll does with its result (R144): on any but none, SHAPE.NEXT and then FB with the new shape (R146). -/
def confirm (result : Button) (s : State) : State :=
  if result = .none then s else (shapeNext s).emit (.feedback (shapeCode (shapeNext s).shape))

/-- `POLL.GEST`, R144: the result is returned as the poll's last event (log 12). -/
def pollGest (rawButton : U10) (s : State) : State :=
  (confirm (gestResult rawButton s) (gestStep rawButton s)).emit (.gesture (gestResult rawButton s))

/-- `POLL.GEST RAW_BUTTON`, R144. -/
def execPollGest (rawButton : U10) (s : State) : Host.Outcome State Fault Refusal := .next (pollGest rawButton s)

end Sys2Proof.Machine
end

