-- ==== Sys2Proof/Machine/Oscillator.lean ====
section
/-! DEFINITION. The fixed-point oscillator (40_oscillator.md): PHASE.ADV, the waveform functions, WAVEGEN, MIX, and
the four waveform micro-operations of spec/opcode_table.json. -/

namespace Sys2Proof.Machine

/-- `PHASE.ADV(n)`, R100: `PHASEn <- (PHASEn + INCn) mod 65536`. -/
def phaseAdv (v : Voice) (s : State) : State := s.setPhase v (s.phase v + s.inc v)

/-- `WAVE.SAW(phase)`, R104: the high byte. -/
def waveSaw (phase : U16) : U8 := highByte phase

/-- `WAVE.SQR(phase)`, R105: 255 if the high byte is above 127, else 0. -/
def waveSqr (phase : U16) : U8 := if 127 < (highByte phase).toNat then 255 else 0

/-- `WAVE.TRI(phase)`, R106: `phase[14:7]`, complemented in the second half of the period. -/
def waveTri (phase : U16) : U8 := if topBit phase then ~~~(rampBits phase) else rampBits phase

/-- `WAVE.SIN(phase)`, R107: the sine table at the high byte. -/
def waveSin (c : Config) (phase : U16) : U8 := readSine c (highByte phase).toNat

/-- `WAVEGEN(shape, phase)`, R103. -/
def waveGen (c : Config) (shape : BitVec 2) (phase : U16) : U8 :=
  match Waveform.ofCode shape with
  | .sawtooth => waveSaw phase
  | .square => waveSqr phase
  | .triangle => waveTri phase
  | .sine => waveSin c phase

/-- `MIX(s1, s2)`, R108: the 9-bit sum shifted right by one. -/
def mix (x y : U8) : U8 := BitVec.ofNat 8 ((x.toNat + y.toNat) / 2)

/-- One sample per voice by one waveform function: the lines `s1 = …`, `s2 = …` of 43_sample_tick.md R160. -/
def sampleVoices (wave : U16 → U8) (s : State) : State := s.setSamples (wave s.phase1) (wave s.phase2)

/-- `WAVE.SAW` run for both voices on the phases as they stand (R104; log 9). -/
def execWaveSaw (s : State) : Host.Outcome State Fault Refusal := .next (sampleVoices waveSaw s)

/-- `WAVE.SQR` run for both voices on the phases as they stand (R105; log 9). -/
def execWaveSqr (s : State) : Host.Outcome State Fault Refusal := .next (sampleVoices waveSqr s)

/-- `WAVE.TRI` run for both voices on the phases as they stand (R106; log 9). -/
def execWaveTri (s : State) : Host.Outcome State Fault Refusal := .next (sampleVoices waveTri s)

/-- `WAVE.SIN` run for both voices on the phases as they stand (R107; log 9). -/
def execWaveSin (s : State) : Host.Outcome State Fault Refusal := .next (sampleVoices (waveSin s.cfg) s)

end Sys2Proof.Machine
end

