-- ==== Sys2Proof/Machine/SampleTick.lean ====
section
/-! DEFINITION. The sample-tick scheduler (43_sample_tick.md): TICK, RD.TICKS, NOP and RESET, and the elapsed-time
difference of R166. -/

namespace Sys2Proof.Machine

/-- The counter and both phases advanced: the first three lines of R160. -/
def advanceVoices (s : State) : State := phaseAdv .two (phaseAdv .one (s.setTicks (s.ticks + 1)))

/-- One sample per voice by the function SHAPE[1:0] selects, SHAPE read once (R160, R162). -/
def generateSamples (s : State) : State := sampleVoices (waveGen s.cfg (shapeCode s.shape)) s

/-- The mean of the two samples to AUDIO_OUT (R160, R161). -/
def outputMix (s : State) : State := s.writeAudio (mix s.s1 s.s2)

/-- `TICK`, R160, as one atomic step of the tick context (60_exceptions.md R185, R186). -/
def tick (s : State) : State := (outputMix (generateSamples (advanceVoices s.enterTick))).leaveTick

/-- `TICK`, R160. -/
def execTick (s : State) : Host.Outcome State Fault Refusal := .next (tick s)

/-- `RD.TICKS`, R165: returns TICKS and changes no register. -/
def execRdTicks (s : State) : Host.Outcome State Fault Refusal := .next (s.emit (.tickCount s.ticks))

/-- `NOP`, R167: nothing. -/
def execNop (s : State) : Host.Outcome State Fault Refusal := .next s

/-- `RESET`, R168. -/
def execReset (s : State) : Host.Outcome State Fault Refusal := .next s.resetRegisters

/-- The number of ticks between an earlier read `t0` and a later read `t1`: `(t1 - t0) mod 65536` (R166). -/
def elapsedTicks (t0 t1 : U16) : Nat := (65536 + t1.toNat - t0.toNat) % 65536

/-- Ticks in a number of milliseconds: 10 ticks are one millisecond (R166, R95). -/
def ticksOfMs (ms : Nat) : Nat := 10 * ms

end Sys2Proof.Machine
end

