-- ==== Sys2Proof/Machine/Dispatch.lean ====
section
/-! DEFINITION. One arm per constructor of `Instr`, each one call of its meaning. -/

namespace Sys2Proof.Machine

def exec (i : Instr) (s : State) : Host.Outcome State Fault Refusal :=
  match i with
  | .nop => Sys2Proof.Machine.execNop s
  | .tick => Sys2Proof.Machine.execTick s
  | .pollCtrl p d => Sys2Proof.Machine.execPollCtrl p d s
  | .ctrlEval p d => Sys2Proof.Machine.execCtrlEval p d s
  | .wrInc1 => Sys2Proof.Machine.execWrInc1 s
  | .wrInc2 => Sys2Proof.Machine.execWrInc2 s
  | .pollGest v => Sys2Proof.Machine.execPollGest v s
  | .rdTicks => Sys2Proof.Machine.execRdTicks s
  | .reset => Sys2Proof.Machine.execReset s
  | .waveSaw => Sys2Proof.Machine.execWaveSaw s
  | .waveSqr => Sys2Proof.Machine.execWaveSqr s
  | .waveTri => Sys2Proof.Machine.execWaveTri s
  | .waveSin => Sys2Proof.Machine.execWaveSin s

end Sys2Proof.Machine
end

