-- ==== Sys2Proof/Decode.lean ====
section
/-! DEFINITION. Decoding, total on every word of either format and rejecting by name, and the encoder written from
the same tables (30_encoding.md R80, R83, R84, R85, R87, R93). -/

namespace Sys2Proof

/-- Why a word is reserved (30_encoding.md R93; for a selector byte, R80). -/
inductive Reserved where
  /-- `op` in 0x8..0xE. -/
  | op
  /-- A non-zero operand field where R84 requires 0. -/
  | operand
  /-- A selector byte with one of the bits 7:2 set, which SHAPE never has. -/
  | selector
  deriving DecidableEq, Repr

/-- `cmd[23:20]`, R83. -/
def opField (w : BitVec 24) : BitVec 4 := w.extractLsb' 20 4

/-- `cmd[19:10]`, R83. -/
def aField (w : BitVec 24) : U10 := w.extractLsb' 10 10

/-- `cmd[9:0]`, R83. -/
def bField (w : BitVec 24) : U10 := w.extractLsb' 0 10

/-- An operation whose `a` and `b` must both be 0. -/
def decodeBare (w : BitVec 24) (i : Instr) : Except Reserved Instr :=
  if aField w = 0 ∧ bField w = 0 then .ok i else .error .operand

/-- A `CMD24` word (R84, R85, R93). -/
def decodeCmd (w : BitVec 24) : Except Reserved Instr :=
  match (opField w).toNat with
  | 0x0 => decodeBare w .nop
  | 0x1 => decodeBare w .tick
  | 0x2 => .ok (.pollCtrl (aField w) (bField w))
  | 0x3 => .ok (.ctrlEval (aField w) (bField w))
  | 0x4 => decodeBare w .wrInc1
  | 0x5 => decodeBare w .wrInc2
  | 0x6 => if aField w = 0 then .ok (.pollGest (bField w)) else .error .operand
  | 0x7 => decodeBare w .rdTicks
  | 0xF => decodeBare w .reset
  | _ => .error .op

/-- A `SHAPE2` selector (R80, R87): the micro-operation that SHAPE[1:0] selects. -/
def decodeSelector (b : U8) : Except Reserved Instr :=
  match b.toNat with
  | 0 => .ok .waveSaw
  | 1 => .ok .waveSqr
  | 2 => .ok .waveTri
  | 3 => .ok .waveSin
  | _ => .error .selector

/-- The operation a word stands for. -/
def decode : FetchWord → Except Reserved Instr
  | .cmd w => decodeCmd w
  | .selector b => decodeSelector b

/-- `op`, `a` and `b` put together, R83. -/
def cmdWord (op : BitVec 4) (a b : U10) : BitVec 24 := op ++ a ++ b

/-- The word of an operation (R80, R84). -/
def encode : Instr → FetchWord
  | .nop => .cmd (cmdWord 0x0 0 0)
  | .tick => .cmd (cmdWord 0x1 0 0)
  | .pollCtrl p d => .cmd (cmdWord 0x2 p d)
  | .ctrlEval p d => .cmd (cmdWord 0x3 p d)
  | .wrInc1 => .cmd (cmdWord 0x4 0 0)
  | .wrInc2 => .cmd (cmdWord 0x5 0 0)
  | .pollGest v => .cmd (cmdWord 0x6 0 v)
  | .rdTicks => .cmd (cmdWord 0x7 0 0)
  | .reset => .cmd (cmdWord 0xF 0 0)
  | .waveSaw => .selector 0
  | .waveSqr => .selector 1
  | .waveTri => .selector 2
  | .waveSin => .selector 3

/-- The mask and match of a row of the table of R84; none for the four micro-operations, which have no command
word (R87). -/
def Instr.cmdRow : Instr → Option (BitVec 24 × BitVec 24)
  | .nop => some (0xFFFFFF, 0x000000)
  | .tick => some (0xFFFFFF, 0x100000)
  | .pollCtrl _ _ => some (0xF00000, 0x200000)
  | .ctrlEval _ _ => some (0xF00000, 0x300000)
  | .wrInc1 => some (0xFFFFFF, 0x400000)
  | .wrInc2 => some (0xFFFFFF, 0x500000)
  | .pollGest _ => some (0xFFFC00, 0x600000)
  | .rdTicks => some (0xFFFFFF, 0x700000)
  | .reset => some (0xFFFFFF, 0xF00000)
  | .waveSaw => none
  | .waveSqr => none
  | .waveTri => none
  | .waveSin => none

/-- The column `agent` of R84. The waveform micro-operations run only inside TICK (00_scope.md R14). -/
def Instr.agent : Instr → Agent
  | .nop => .foreground
  | .tick => .tick
  | .pollCtrl _ _ => .foreground
  | .ctrlEval _ _ => .foreground
  | .wrInc1 => .foreground
  | .wrInc2 => .foreground
  | .pollGest _ => .foreground
  | .rdTicks => .foreground
  | .reset => .environment
  | .waveSaw => .tick
  | .waveSqr => .tick
  | .waveTri => .tick
  | .waveSin => .tick

/-- The word that an instruction's bits make, bit 0 the least significant: a row of at most one byte is a `SHAPE2`
selector, any other a `CMD24` word; bits above `nbits` are 0. -/
def tableWord (nbits w : Nat) : FetchWord :=
  if nbits ≤ 8 then .selector (BitVec.ofNat 8 (w % 2 ^ nbits)) else .cmd (BitVec.ofNat 24 (w % 2 ^ nbits))

/-- The instruction the decoder reads from an instruction's bits as spec/opcode_table.json numbers them. -/
def decodeTableWord (nbits w : Nat) : Option Instr :=
  match decode (tableWord nbits w) with
  | .ok i => some i
  | .error _ => none

end Sys2Proof
end

