-- ==== Sys2Proof/WellFormed.lean ====
section
/-! DEFINITION. The checks: which configurations have a meaning (00_scope.md R8) and which assembler lines are no
error (30_encoding.md R94). An `Instr` needs no check: its operands are readings by their type (R85, R88). -/

namespace Sys2Proof

/-- R8 item 3: `DETUNE_CURVE[k] <= DETUNE_CURVE[k+1]` for k in 0..31. -/
def Config.curveRises (c : Config) : Bool :=
  (List.finRange 32).all fun k => decide (c.detuneCurve[k.val].toNat ≤ c.detuneCurve[k.val + 1].toNat)

/-- R8 item 4: `DETUNE_CURVE[0] = 0`. -/
def Config.curveStartsAtZero (c : Config) : Bool := c.detuneCurve[0] == 0

/-- R8 item 5: `SCALE_NUM >= 1` and `SCALE_DEN >= 1`. -/
def Config.scalePositive (c : Config) : Bool := decide (1 ≤ c.scaleNum ∧ 1 ≤ c.scaleDen)

/-- R8 item 6: `0 <= V_BOTH < V_RIGHT < V_LEFT <= V_RELEASE <= 1023` and `0 <= V_PRESS <= V_RELEASE`. -/
def Config.bandsOrdered (c : Config) : Bool :=
  decide (c.vBoth < c.vRight ∧ c.vRight < c.vLeft ∧ c.vLeft ≤ c.vRelease ∧ c.vRelease ≤ 1023 ∧
    c.vPress ≤ c.vRelease)

/-- A configuration meets R8. Items 1 and 2 and the sizes and ranges of item 3 are in the types of the tables. -/
def Config.wf (c : Config) : Bool :=
  c.curveRises && c.curveStartsAtZero && c.scalePositive && c.bandsOrdered

/-- A number written as an operand is a reading (30_encoding.md R94: 0 to 1023). -/
def isReading (n : Nat) : Bool := decide (n ≤ 1023)

/-- The line is no assembly error: "An operand outside 0..1023 is an assembly error, not a command" (R94). The
counts of `ticks` and `wait.ms` have no upper bound (R95). -/
def AsmLine.wf : AsmLine → Bool
  | .pollCtrl p d => isReading p && isReading d
  | .ctrlEval p d => isReading p && isReading d
  | .pollGest v => isReading v
  | .poll p d v => isReading p && isReading d && isReading v
  | .nop => true
  | .tick => true
  | .wrInc1 => true
  | .wrInc2 => true
  | .rdTicks => true
  | .reset => true
  | .ticks _ => true
  | .waitMs _ => true

end Sys2Proof
end

