-- ==== Sys2Proof/Machine/Fetch.lean ====
section
/-! DEFINITION. What moves next. The block fetches nothing (10_state.md R38): its operations are issued by the two
agents in one total order (20_memory.md R64), and a command stream fixes that order (30_encoding.md R96). -/

namespace Sys2Proof.Machine

/-- What the next step is, with the state it starts from. -/
inductive Move where
  /-- No meaning: the configuration breaks 00_scope.md R8. -/
  | reject
  /-- Nothing is issued; the state stays as it is (log 1). -/
  | idle
  /-- The foreground makes the second byte write of a publication (20_memory.md R63). -/
  | finishWrite (b : ByteWrite) (s : State)
  /-- The next word of the stream is issued. -/
  | issue (w : FetchWord) (s : State)
  deriving DecidableEq, Repr

/-- The word belongs to the tick context or the environment, so it may stand between two byte writes of the
foreground (20_memory.md R63, R64; for RESET, 60_exceptions.md R184). -/
def mayPreempt (w : FetchWord) : Bool :=
  match decode w with
  | .ok i => i.agent != .foreground
  | .error _ => false

/-- The move of a state whose foreground is inside a publication: the second byte write, unless the next word may
preempt it and the answer to the open order is that it does (20_memory.md R63; log 10). -/
def moveInsideWrite (b : ByteWrite) (s : State) : Move :=
  match s.stream with
  | [] => .finishWrite b s
  | w :: rest =>
    if mayPreempt w then
      if s.choice then .issue w { s.afterChoice with stream := rest } else .finishWrite b s.afterChoice
    else .finishWrite b s

/-- The move of a state between two foreground steps: the next word of the stream. -/
def moveBetweenSteps (s : State) : Move :=
  match s.stream with
  | [] => .idle
  | w :: rest => .issue w { s with stream := rest }

/-- What moves next. -/
def nextMove (s : State) : Move :=
  if s.cfg.wf then
    match s.tornWrite with
    | some b => moveInsideWrite b s
    | none => moveBetweenSteps s
  else .reject

end Sys2Proof.Machine
end

