-- ==== Sys2Proof/Machine/Step.lean ====
section
/-! DEFINITION. One step of the machine: one element of the total order of 20_memory.md R64. -/

namespace Sys2Proof.Machine

/-- One step: the move that is next, carried out. -/
def step (s : State) : Host.Outcome State Fault Refusal :=
  match nextMove s with
  | .reject => .refused .badConfig
  | .idle => .next s
  | .finishWrite b t => .next (t.publishSecondByte b)
  | .issue w t =>
    match decode w with
    | .ok i => exec i t
    | .error _ => .refused (.reservedWord w)

/-- `s` with the word of an instruction's bits next in the command stream, and the foreground between two steps, so
that the very next step issues it (log 1). -/
def State.withFetchWord (s : State) (nbits w : Nat) : State :=
  { s with stream := tableWord nbits w :: s.stream, tornWrite := none }

end Sys2Proof.Machine
end

