-- ==== Sys2Proof/Machine/Assembler.lean ====
section
/-! DEFINITION. The spec's assembler (30_encoding.md R94, R95): "one command per line, lower-case mnemonic, operands in
decimal (or `0x` hexadecimal) separated by a comma, `;` starts a comment". Text is a list of characters. -/

namespace Sys2Proof.Machine

/-- Why a line is no command. -/
inductive AsmError where
  /-- It is no line of the forms R94 and R95 give. -/
  | badLine
  /-- "An operand outside 0..1023 is an assembly error" (R94). -/
  | badOperand
  deriving DecidableEq, Repr

/-- A number as a reading operand (R85); `AsmLine.wf` says the number fits. -/
def readingOf (n : Nat) : U10 := BitVec.ofNat 10 n

/-- What a line stands for (R94), with the expansions of the pseudo-instructions (R95). -/
def expandLine : AsmLine → List Instr
  | .nop => [.nop]
  | .tick => [.tick]
  | .pollCtrl p d => [.pollCtrl (readingOf p) (readingOf d)]
  | .ctrlEval p d => [.ctrlEval (readingOf p) (readingOf d)]
  | .wrInc1 => [.wrInc1]
  | .wrInc2 => [.wrInc2]
  | .pollGest v => [.pollGest (readingOf v)]
  | .rdTicks => [.rdTicks]
  | .reset => [.reset]
  | .ticks n => List.replicate n .tick
  | .waitMs n => List.replicate (ticksOfMs n) .tick
  | .poll p d v => [.pollCtrl (readingOf p) (readingOf d), .pollGest (readingOf v)]

/-- White space inside a line. -/
def isBlank (c : Char) : Bool := c == ' ' || c == '\t' || c == '\r'

/-- The line without its comment. -/
def dropComment : List Char → List Char
  | [] => []
  | c :: cs => if c == ';' then [] else c :: dropComment cs

/-- The token read so far (in reverse), if there is one. -/
def closeToken (cur : List Char) : List (List Char) := if cur.isEmpty then [] else [cur.reverse]

/-- The tokens of a line; a comma is a token of its own. -/
def tokens (cur : List Char) : List Char → List (List Char)
  | [] => closeToken cur
  | c :: cs =>
    if isBlank c then closeToken cur ++ tokens [] cs
    else if c == ',' then closeToken cur ++ ([','] :: tokens [] cs)
    else tokens (c :: cur) cs

/-- The value of a digit, decimal or hexadecimal. -/
def digitValue (c : Char) : Option Nat :=
  if '0' ≤ c ∧ c ≤ '9' then some (c.toNat - 48)
  else if 'a' ≤ c ∧ c ≤ 'f' then some (c.toNat - 87)
  else if 'A' ≤ c ∧ c ≤ 'F' then some (c.toNat - 55)
  else none

/-- The number that digits in a base stand for, after the digits already read. -/
def digitsValue (base acc : Nat) : List Char → Option Nat
  | [] => some acc
  | c :: cs =>
    match digitValue c with
    | some d => if d < base then digitsValue base (acc * base + d) cs else none
    | none => none

/-- A number, "in decimal (or `0x` hexadecimal)". -/
def numberOf : List Char → Option Nat
  | '0' :: 'x' :: c :: cs => digitsValue 16 0 (c :: cs)
  | c :: cs => digitsValue 10 0 (c :: cs)
  | [] => none

/-- A line with no operand. -/
def bareLine (m : List Char) : Option AsmLine :=
  if m == "nop".toList then some .nop
  else if m == "tick".toList then some .tick
  else if m == "wr.inc1".toList then some .wrInc1
  else if m == "wr.inc2".toList then some .wrInc2
  else if m == "rd.ticks".toList then some .rdTicks
  else if m == "reset".toList then some .reset
  else none

/-- A line with one operand. -/
def unaryLine (m : List Char) (x : Nat) : Option AsmLine :=
  if m == "poll.gest".toList then some (.pollGest x)
  else if m == "ticks".toList then some (.ticks x)
  else if m == "wait.ms".toList then some (.waitMs x)
  else none

/-- A line with two operands. -/
def binaryLine (m : List Char) (x y : Nat) : Option AsmLine :=
  if m == "poll.ctrl".toList then some (.pollCtrl x y)
  else if m == "ctrl.eval".toList then some (.ctrlEval x y)
  else none

/-- A line with three operands. -/
def ternaryLine (m : List Char) (x y z : Nat) : Option AsmLine :=
  if m == "poll".toList then some (.poll x y z) else none

/-- The line that tokens make. -/
def lineOfTokens : List (List Char) → Option AsmLine
  | [m] => bareLine m
  | [m, x] => do unaryLine m (← numberOf x)
  | [m, x, [','], y] => do binaryLine m (← numberOf x) (← numberOf y)
  | [m, x, [','], y, [','], z] => do ternaryLine m (← numberOf x) (← numberOf y) (← numberOf z)
  | _ => none

/-- The operations of one line of text; a line with only a comment or blanks stands for none. -/
def assembleLine (text : List Char) : Except AsmError (List Instr) :=
  match tokens [] (dropComment text) with
  | [] => .ok []
  | t :: ts =>
    match lineOfTokens (t :: ts) with
    | some l => if l.wf then .ok (expandLine l) else .error .badOperand
    | none => .error .badLine

/-- The operations of a program, line by line. -/
def assemble : List (List Char) → Except AsmError (List Instr)
  | [] => .ok []
  | l :: ls =>
    match assembleLine l, assemble ls with
    | .ok is, .ok js => .ok (is ++ js)
    | .error e, _ => .error e
    | _, .error e => .error e

/-- The operations' words put at the end of the command stream, from outside the machine (log 1). -/
def State.supply (s : State) (is : List Instr) : State := { s with stream := s.stream ++ is.map encode }

end Sys2Proof.Machine
end

