-- ==== Sys2Proof/Safety.lean ====
section
/-! DEFINITION. What claims are stated in: runs of operations, the ownership of registers (10_state.md R36), the
invariant, and the states from which a run never stops. -/

namespace Sys2Proof.Machine

/-- A sequence of operations carried out one after another, stopping at the first refusal: one interleaving of the
two agents (30_encoding.md R96). -/
def runInstrs : List Instr → State → Host.Outcome State Fault Refusal
  | [], s => .next s
  | i :: is, s =>
    match exec i s with
    | .next t => runInstrs is t
    | .fault r => .fault r
    | .refused r => .refused r

/-- The registers that R36 gives to the TICK agent are the same. -/
structure SameTickRegisters (s t : State) : Prop where
  phase1 : t.phase1 = s.phase1
  phase2 : t.phase2 = s.phase2
  ticks : t.ticks = s.ticks
  audioOut : t.audioOut = s.audioOut

/-- The registers that R36 gives to the FOREGROUND agent are the same. -/
structure SameForegroundRegisters (s t : State) : Prop where
  inc1 : t.inc1 = s.inc1
  inc2 : t.inc2 = s.inc2
  shape : t.shape = s.shape
  emaAcc : t.emaAcc = s.emaAcc
  emaInit : t.emaInit = s.emaInit
  gPhase : t.gPhase = s.gPhase
  gPeak : t.gPeak = s.gPeak
  stgInc1 : t.stgInc1 = s.stgInc1
  stgInc2 : t.stgInc2 = s.stgInc2
  tornWrite : t.tornWrite = s.tornWrite

/-- What TICK reads is the same (20_memory.md R71; 60_exceptions.md R187). -/
structure SameTickInputs (s t : State) : Prop where
  phase1 : t.phase1 = s.phase1
  phase2 : t.phase2 = s.phase2
  inc1 : t.inc1 = s.inc1
  inc2 : t.inc2 = s.inc2
  shape : t.shape = s.shape
  ticks : t.ticks = s.ticks
  sineTable : t.cfg.sineTable = s.cfg.sineTable

/-- The values of the AUDIO events, in order (00_scope.md R6 item a). -/
def audioValues : List Event → List U8
  | [] => []
  | .audio v :: es => v :: audioValues es
  | .feedback _ :: es => audioValues es
  | .gesture _ :: es => audioValues es
  | .tickCount _ :: es => audioValues es

/-- The shape codes of the FB events, in order (00_scope.md R6 item b). -/
def feedbackShapes : List Event → List (BitVec 2)
  | [] => []
  | .feedback c :: es => c :: feedbackShapes es
  | .audio _ :: es => feedbackShapes es
  | .gesture _ :: es => feedbackShapes es
  | .tickCount _ :: es => feedbackShapes es

/-- The gesture results, in order (00_scope.md R6 item c). -/
def gestureResults : List Event → List Button
  | [] => []
  | .gesture b :: es => b :: gestureResults es
  | .audio _ :: es => gestureResults es
  | .feedback _ :: es => gestureResults es
  | .tickCount _ :: es => gestureResults es

/-- The values RD.TICKS returned, in order (00_scope.md R6 item d). -/
def tickCounts : List Event → List U16
  | [] => []
  | .tickCount v :: es => v :: tickCounts es
  | .audio _ :: es => tickCounts es
  | .feedback _ :: es => tickCounts es
  | .gesture _ :: es => tickCounts es

/-- How many gestures were confirmed: the results other than none. -/
def confirmedGestures (es : List Event) : Nat := ((gestureResults es).filter (· ≠ .none)).length

/-- The largest of a list of virtual-button values, none if there are none (30_encoding.md R81). -/
def peakOf : List Button → Button
  | [] => .none
  | b :: bs => b.max (peakOf bs)

/-- The invariant of every run: the configuration has a meaning (00_scope.md R8), bits 7:2 of SHAPE are 0
(10_state.md R23), the accumulator is bounded (41_control_mapper.md R132), the staging registers hold what the last
CTRL.EVAL since reset left there (R127, R131 item 5) and are 0 before it, a publication is inside only with
`ATOMIC16 = false`, and with `ATOMIC16 = true` an increment is never a torn value (20_memory.md R63). -/
structure State.Inv (s : State) : Prop where
  config : s.cfg.wf = true
  shapeBits : s.shape.toNat < 4
  accumulator : s.emaAcc.toNat ≤ 16383
  staged : s.emaInit = true →
    (∃ k : Fin 73, s.stgInc1 = s.cfg.noteTable[k.val]) ∧
    (∃ d : Nat, d ≤ 1023 ∧ s.stgInc2 = detunedIncrement s.cfg s.stgInc1 d)
  unstaged : s.emaInit = false → s.emaAcc = 0 ∧ s.stgInc1 = 0 ∧ s.stgInc2 = 0
  inside : s.tornWrite.isSome = true → s.cfg.atomic16 = false
  wholeInc1 : s.cfg.atomic16 = true → s.inc1 = 0 ∨ ∃ k : Fin 73, s.inc1 = s.cfg.noteTable[k.val]
  wholeInc2 : s.cfg.atomic16 = true →
    s.inc2 = 0 ∨ ∃ (k : Fin 73) (d : Nat), d ≤ 1023 ∧ s.inc2 = detunedIncrement s.cfg s.cfg.noteTable[k.val] d

/-- A word stands for an operation. -/
def meaningful (w : FetchWord) : Prop := ∃ i, decode w = .ok i

/-- The state is safe to run: the configuration has a meaning and the stream holds no reserved word. -/
def State.Safe (s : State) : Prop := s.cfg.wf = true ∧ ∀ w ∈ s.stream, meaningful w

end Sys2Proof.Machine
end

