-- ==== Sys2Proof/Certificates/Slice0/Obligations.lean ====
section
/-! DEFINITION. What is stated about the model, for the provers. A value the spec leaves open (AUDIO_OUT after
RESET, the order of two byte writes, the parameters) is never fixed by a statement: it holds for every value. -/

open Sys2Proof Sys2Proof.Machine

/-! ## Encoding (30_encoding.md) -/

/-- Every operation is read back from its own word, with every operand. R83, R84, R85; R80 and R87 for the
micro-operations. -/
def Obligations.DecodingTheEncodedOperationGivesItBack : Prop :=
  ∀ i : Instr, decode (encode i) = .ok i

/-- A word that stands for an operation is that operation's only word: no bit of a word is ignored. R83, R84 and R93
for command words. For selector bytes, of which R87 matches bits 1:0 only, that a byte with one of the bits 7:2 set
decodes to nothing is the model's own reading of R80 (log 5). -/
def Obligations.OnlyTheEncodedWordDecodesToAnOperation : Prop :=
  ∀ (w : FetchWord) (i : Instr), decode w = .ok i → encode i = w

/-- "a word `w` selects the row when `w & mask = match`" (R84): a word decodes to an operation of a row exactly when
it matches the row, and the operands are `cmd[19:10]` and `cmd[9:0]` as they stand (R85); `op` 0x8 to 0xE is reserved;
and the column `agent` of R84. -/
def Obligations.WordsSelectTheirRowByMaskAndMatch : Prop :=
  ∀ w : BitVec 24,
    (decodeCmd w = .ok .nop ↔ w &&& 0xFFFFFF = 0x000000) ∧
    (decodeCmd w = .ok .tick ↔ w &&& 0xFFFFFF = 0x100000) ∧
    (decodeCmd w = .ok (.pollCtrl (BitVec.ofNat 10 (w.toNat / 1024)) (BitVec.ofNat 10 w.toNat)) ↔
      w &&& 0xF00000 = 0x200000) ∧
    (decodeCmd w = .ok (.ctrlEval (BitVec.ofNat 10 (w.toNat / 1024)) (BitVec.ofNat 10 w.toNat)) ↔
      w &&& 0xF00000 = 0x300000) ∧
    (decodeCmd w = .ok .wrInc1 ↔ w &&& 0xFFFFFF = 0x400000) ∧
    (decodeCmd w = .ok .wrInc2 ↔ w &&& 0xFFFFFF = 0x500000) ∧
    (decodeCmd w = .ok (.pollGest (BitVec.ofNat 10 w.toNat)) ↔ w &&& 0xFFFC00 = 0x600000) ∧
    (decodeCmd w = .ok .rdTicks ↔ w &&& 0xFFFFFF = 0x700000) ∧
    (decodeCmd w = .ok .reset ↔ w &&& 0xFFFFFF = 0xF00000) ∧
    (8 ≤ w.toNat / 1048576 ∧ w.toNat / 1048576 ≤ 14 ↔ decodeCmd w = .error .op) ∧
    (∀ i, decodeCmd w = .ok i →
      (i.agent = .tick ↔ i = .tick) ∧ (i.agent = .environment ↔ i = .reset) ∧
      (i.agent = .foreground ↔ i ≠ .tick ∧ i ≠ .reset))

/-- The words of 95_test_vectors.md section 6, and the four selector codes of R80. -/
def Obligations.WrittenOutWordsDecode : Prop :=
  decode (.cmd 0x000000) = .ok .nop ∧ decode (.cmd 0x100000) = .ok .tick ∧
  decode (.cmd 0x280200) = .ok (.pollCtrl 512 512) ∧ decode (.cmd 0x3A03E8) = .ok (.ctrlEval 640 1000) ∧
  decode (.cmd 0x400000) = .ok .wrInc1 ∧ decode (.cmd 0x500000) = .ok .wrInc2 ∧
  decode (.cmd 0x600064) = .ok (.pollGest 100) ∧ decode (.cmd 0x700000) = .ok .rdTicks ∧
  decode (.cmd 0xF00000) = .ok .reset ∧ decode (.selector 0) = .ok .waveSaw ∧
  decode (.selector 1) = .ok .waveSqr ∧ decode (.selector 2) = .ok .waveTri ∧ decode (.selector 3) = .ok .waveSin

/-- R93: which command words are reserved, and that the machine refuses to step on one. The second clause also covers
selector bytes: that one with a bit of 7:2 set is refused in the same way is the model's choice (log 5). -/
def Obligations.ReservedWordsAreExactlyTheRefusedOnes : Prop :=
  (∀ w : BitVec 24,
    (∃ e, decodeCmd w = .error e) ↔
      ((8 ≤ w.toNat / 1048576 ∧ w.toNat / 1048576 ≤ 14) ∨
       (w.toNat / 1048576 ∈ [0, 1, 4, 5, 7, 15] ∧
         (w.toNat / 1024 % 1024 ≠ 0 ∨ w.toNat % 1024 ≠ 0)) ∨
       (w.toNat / 1048576 = 6 ∧ w.toNat / 1024 % 1024 ≠ 0))) ∧
  (∀ (s : State) (w : FetchWord) (rest : List FetchWord) (e : Reserved),
    s.cfg.wf = true → s.tornWrite = none → s.stream = w :: rest → decode w = .error e →
    step s = .refused (.reservedWord w))

/-- R95: what the pseudo-instructions stand for, for operands that are readings. -/
def Obligations.PseudoInstructionsExpandAsListed : Prop :=
  ∀ (n : Nat) (p d v : U10),
    expandLine (.ticks n) = List.replicate n .tick ∧
    expandLine (.waitMs n) = List.replicate (10 * n) .tick ∧
    expandLine (.poll p.toNat d.toNat v.toNat) = [.pollCtrl p d, .pollGest v]

/-! ## Oscillator (40_oscillator.md) -/

/-- R104 to R107: the four waveform functions, the triangle by the closed form R106 gives. The index of the sine
table is in range. -/
def Obligations.WaveformSamplesMatchTheirClosedForms : Prop :=
  ∀ (c : Config) (p : U16),
    (waveSaw p).toNat = p.toNat / 256 ∧
    (waveSqr p).toNat = (if 127 < p.toNat / 256 then 255 else 0) ∧
    (waveTri p).toNat = (if p.toNat < 32768 then p.toNat / 128 else 255 - (p.toNat - 32768) / 128) ∧
    (∃ h : p.toNat / 256 < 256, waveSin c p = c.sineTable[p.toNat / 256])

/-- R103: every shape code has its function. -/
def Obligations.WaveformSelectorHasNoDefaultArm : Prop :=
  ∀ (c : Config) (p : U16),
    waveGen c 0 p = waveSaw p ∧ waveGen c 1 p = waveSqr p ∧ waveGen c 2 p = waveTri p ∧ waveGen c 3 p = waveSin c p

/-- R108: the exact 9-bit sum, halved downwards; commutative, and `MIX(s, s) = s`. -/
def Obligations.MixIsTheTruncatedMean : Prop :=
  ∀ x y : U8, (mix x y).toNat = (x.toNat + y.toNat) / 2 ∧ mix x y = mix y x ∧ mix x x = x

/-- The properties of the waveform functions that 40_oscillator.md section 4 derives (R109): the sawtooth after an
advance, the exact symmetry of the triangle, the duty and the single rise and fall of the square. -/
def Obligations.WaveformSymmetryDutyAndAdvance : Prop :=
  (∀ p i : U16, waveSaw (p + i) = BitVec.ofNat 8 ((p.toNat + i.toNat) / 256)) ∧
  (∀ p : U16, p.toNat < 32768 → waveTri p = waveTri (65535 - p)) ∧
  ((List.range 256).filter (fun h => waveSqr (BitVec.ofNat 16 (256 * h)) = 255)).length = 128 ∧
  (∀ p : U16, (waveSqr p = 0 ∧ waveSqr (p + 1) = 255) ↔ p = 0x7FFF) ∧
  (∀ p : U16, (waveSqr p = 255 ∧ waveSqr (p + 1) = 0) ↔ p = 0xFFFF)

/-- The four waveform micro-operations, run by themselves: both samples of the phases as they stand, and nothing
else. That a micro-operation may be run by itself is the model's choice (log 9). -/
def Obligations.WaveformMicroOperationsComplete : Prop :=
  ∀ s : State,
    exec .waveSaw s = .next { s with
      s1 := BitVec.ofNat 8 (s.phase1.toNat / 256), s2 := BitVec.ofNat 8 (s.phase2.toNat / 256) } ∧
    exec .waveSqr s = .next { s with
      s1 := if 32768 ≤ s.phase1.toNat then 255 else 0, s2 := if 32768 ≤ s.phase2.toNat then 255 else 0 } ∧
    exec .waveTri s = .next { s with
      s1 := if s.phase1.toNat < 32768 then BitVec.ofNat 8 (s.phase1.toNat / 128)
            else BitVec.ofNat 8 (255 - (s.phase1.toNat - 32768) / 128)
      s2 := if s.phase2.toNat < 32768 then BitVec.ofNat 8 (s.phase2.toNat / 128)
            else BitVec.ofNat 8 (255 - (s.phase2.toNat - 32768) / 128) } ∧
    (∃ (h1 : s.phase1.toNat / 256 < 256) (h2 : s.phase2.toNat / 256 < 256),
      exec .waveSin s = .next { s with
        s1 := s.cfg.sineTable[s.phase1.toNat / 256], s2 := s.cfg.sineTable[s.phase2.toNat / 256] })

/-! ## Sample tick (43_sample_tick.md) -/

/-- R160: what a TICK does, its result and its frame. -/
def Obligations.TickAdvancesMixesAndEmits : Prop :=
  ∀ s : State, ∃ t, exec .tick s = .next t ∧
    t.ticks.toNat = (s.ticks.toNat + 1) % 65536 ∧
    t.phase1.toNat = (s.phase1.toNat + s.inc1.toNat) % 65536 ∧
    t.phase2.toNat = (s.phase2.toNat + s.inc2.toNat) % 65536 ∧
    t.s1 = waveGen s.cfg (BitVec.ofNat 2 s.shape.toNat) t.phase1 ∧
    t.s2 = waveGen s.cfg (BitVec.ofNat 2 s.shape.toNat) t.phase2 ∧
    t.audioOut.toNat = (t.s1.toNat + t.s2.toNat) / 2 ∧
    t.events = s.events ++ [.audio t.audioOut] ∧
    t = { s with ticks := t.ticks, phase1 := t.phase1, phase2 := t.phase2, s1 := t.s1, s2 := t.s2,
                 audioOut := t.audioOut, events := t.events }

/-- R87 with R80: the waveform micro-operation a TICK runs is the one its SHAPE byte selects, on the phases after
the advance. -/
def Obligations.TickRunsTheMicroOperationShapeSelects : Prop :=
  ∀ s : State, s.shape.toNat < 4 →
    ∃ i t u, decode (.selector s.shape) = .ok i ∧ exec .tick s = .next t ∧
      exec i { s with phase1 := s.phase1 + s.inc1, phase2 := s.phase2 + s.inc2 } = .next u ∧
      t.s1 = u.s1 ∧ t.s2 = u.s2 ∧ t.audioOut.toNat = (u.s1.toNat + u.s2.toNat) / 2

/-- The counter and the phases after any number of ticks (R22, R164), one AUDIO event each (R161), and no register of
the foreground changed (R187). That the parameters do not change either is the model's choice (log 2). -/
def Obligations.TicksAccumulateModulo65536 : Prop :=
  ∀ (n : Nat) (s : State), ∃ t, runInstrs (List.replicate n .tick) s = .next t ∧
    t.ticks.toNat = (s.ticks.toNat + n) % 65536 ∧
    t.phase1.toNat = (s.phase1.toNat + n * s.inc1.toNat) % 65536 ∧
    t.phase2.toNat = (s.phase2.toNat + n * s.inc2.toNat) % 65536 ∧
    (audioValues t.events).length = (audioValues s.events).length + n ∧
    SameForegroundRegisters s t ∧ t.cfg = s.cfg

/-- The machine, stepped over n TICK words of its stream, writes exactly the audio that R100, R103, R108 and R160 give
for constant increments and shape: sample k is the mix of the waveform at the initial phases plus k + 1 increments. -/
def Obligations.SteppedTicksPlayThePhaseAccumulatorWaveform : Prop :=
  ∀ (n : Nat) (s : State) (rest : List FetchWord),
    s.cfg.wf = true → s.tornWrite = none → s.stream = List.replicate n (.cmd 0x100000) ++ rest →
    ∃ t, Host.Core.run core n s = .next t ∧ t.stream = rest ∧
      t.ticks = BitVec.ofNat 16 (s.ticks.toNat + n) ∧
      t.phase1 = BitVec.ofNat 16 (s.phase1.toNat + n * s.inc1.toNat) ∧
      t.phase2 = BitVec.ofNat 16 (s.phase2.toNat + n * s.inc2.toNat) ∧
      audioValues t.events = audioValues s.events ++ (List.range n).map (fun k =>
        mix (waveGen s.cfg (shapeCode s.shape) (BitVec.ofNat 16 (s.phase1.toNat + (k + 1) * s.inc1.toNat)))
            (waveGen s.cfg (shapeCode s.shape) (BitVec.ofNat 16 (s.phase2.toNat + (k + 1) * s.inc2.toNat))))

/-- With increments and phases 0, as before the first publication, every TICK writes the constant
`WAVEGEN(SHAPE, 0)` (70_reset_and_hazards.md section 2, derived from R200 and R160). -/
def Obligations.SilenceBeforeTheFirstPublication : Prop :=
  ∀ (n : Nat) (s : State), s.phase1 = 0 → s.phase2 = 0 → s.inc1 = 0 → s.inc2 = 0 →
    ∃ t, runInstrs (List.replicate n .tick) s = .next t ∧
      audioValues t.events = audioValues s.events ++ List.replicate n (waveGen s.cfg (shapeCode s.shape) 0)

/-- Two states that agree on what TICK reads give the same audio and the same tick registers, however the rest
differs: the foreground's private state cannot reach the audio but through INC1, INC2 and SHAPE (R71, R187). -/
def Obligations.AudioDependsOnlyOnWhatTickReads : Prop :=
  ∀ (n : Nat) (s s' : State), SameTickInputs s s' →
    ∃ t t' new, runInstrs (List.replicate n .tick) s = .next t ∧ runInstrs (List.replicate n .tick) s' = .next t' ∧
      SameTickInputs t t' ∧ new.length = n ∧
      audioValues t.events = audioValues s.events ++ new ∧ audioValues t'.events = audioValues s'.events ++ new

/-- R161: exactly one write of AUDIO_OUT per TICK, of the value it then holds, and no write by any other operation.
RESET leaves AUDIO_OUT with no defined value and writes no AUDIO event (R200). -/
def Obligations.AudioIsWrittenOncePerTickAndByNothingElse : Prop :=
  ∀ (i : Instr) (s : State), ∃ t, exec i s = .next t ∧
    audioValues t.events = audioValues s.events ++ (if i = .tick then [t.audioOut] else []) ∧
    (i ≠ .tick → i ≠ .reset → t.audioOut = s.audioOut)

/-- R165: the value of TICKS is returned and no state changes. -/
def Obligations.ReadingTicksReturnsThemAndChangesNothing : Prop :=
  ∀ s : State, exec .rdTicks s = .next { s with events := s.events ++ [.tickCount s.ticks] }

/-- The wraparound-aware difference of R166 is exact while fewer than 65536 ticks lie between the two reads. -/
def Obligations.ElapsedTicksAreExactAcrossTheWrap : Prop :=
  ∀ (n : Nat) (s : State), n < 65536 →
    ∃ t t0 t1, runInstrs (.rdTicks :: (List.replicate n .tick ++ [.rdTicks])) s = .next t ∧
      tickCounts t.events = tickCounts s.events ++ [t0, t1] ∧ elapsedTicks t0 t1 = n

/-- R167: any state is unchanged by NOP. -/
def Obligations.NopChangesNothing : Prop :=
  ∀ s : State, exec .nop s = .next s

/-! ## Reset (70_reset_and_hazards.md) -/

/-- R200 (and R168): every register at its reset value, no event, and the tables not affected (nor the parameters: log 2).
AUDIO_OUT has no defined value, so the statement says nothing of it. That a publication in progress is discarded, and
that the stream and the environment's answers stay, is the model's choice (log 16, resting on R184). -/
def Obligations.ResetSetsEveryRegister : Prop :=
  ∀ s : State, ∃ t, exec .reset s = .next t ∧
    t.phase1 = 0 ∧ t.phase2 = 0 ∧ t.inc1 = 0 ∧ t.inc2 = 0 ∧ t.shape = 0 ∧ t.ticks = 0 ∧
    t.emaAcc = 0 ∧ t.emaInit = false ∧ t.gPhase = .notPressed ∧ t.gPeak = .none ∧
    t.stgInc1 = 0 ∧ t.stgInc2 = 0 ∧ t.tornWrite = none ∧
    t.cfg = s.cfg ∧ t.stream = s.stream ∧ t.events = s.events ∧ t.choices = s.choices

/-- R42: the registers of the reset state, under every configuration (AUDIO_OUT has no defined value there), and that
`State.reset` is one of these states; under which configuration is the model's choice (log 2). -/
def Obligations.ResetStateHoldsTheListedValues : Prop :=
  (∀ c : Config,
    (State.resetWith c).phase1 = 0 ∧ (State.resetWith c).phase2 = 0 ∧
    (State.resetWith c).inc1 = 0 ∧ (State.resetWith c).inc2 = 0 ∧
    (State.resetWith c).shape = 0 ∧ (State.resetWith c).ticks = 0 ∧
    (State.resetWith c).emaAcc = 0 ∧ (State.resetWith c).emaInit = false ∧
    (State.resetWith c).gPhase = .notPressed ∧ (State.resetWith c).gPeak = .none ∧
    (State.resetWith c).stgInc1 = 0 ∧ (State.resetWith c).stgInc2 = 0 ∧ (State.resetWith c).cfg = c) ∧
  (∃ c : Config, State.reset = State.resetWith c)

/-! ## Control mapper (41_control_mapper.md) -/

/-- R120: product first, truncating division, clamp; 0 stays 0, and RESCALE is non-decreasing. -/
def Obligations.RescaleClampsTheTruncatedQuotient : Prop :=
  ∀ (c : Config) (raw raw' : U10),
    rescale c raw = min 1023 (raw.toNat * c.scaleNum / c.scaleDen) ∧ rescale c 0 = 0 ∧
    (raw.toNat ≤ raw'.toNat → rescale c raw ≤ rescale c raw') ∧
    (c.scaleNum = c.scaleDen → 1 ≤ c.scaleDen → rescale c raw = raw.toNat)

/-- R122: the formula, its range, its end, its monotony. -/
def Obligations.QuantCoversTheNoteIndices : Prop :=
  ∀ x : Nat, x ≤ 1023 →
    quant x = x * 72 / 1023 ∧ quant x ≤ 72 ∧ (quant x = 72 ↔ x = 1023) ∧ ∀ y : Nat, y ≤ x → quant y ≤ quant x

/-- R127 with R120 to R125: both staging registers, the accumulator and EMA_INIT, every table index in range, and the
frame, from a state whose accumulator is within the bound of R132. -/
def Obligations.CtrlEvalStagesBothIncrements : Prop :=
  ∀ (rawPitch rawDetune : U10) (s : State), s.cfg.wf = true → s.emaAcc.toNat ≤ 16383 →
    ∃ t, exec (.ctrlEval rawPitch rawDetune) s = .next t ∧
      t.emaAcc.toNat = (if s.emaInit then
          s.emaAcc.toNat + min 1023 (rawPitch.toNat * s.cfg.scaleNum / s.cfg.scaleDen) - s.emaAcc.toNat / 16
        else min 1023 (rawPitch.toNat * s.cfg.scaleNum / s.cfg.scaleDen) * 16) ∧
      t.emaInit = true ∧
      (∃ h : t.emaAcc.toNat / 16 * 72 / 1023 < 73,
        t.stgInc1 = s.cfg.noteTable[t.emaAcc.toNat / 16 * 72 / 1023]) ∧
      (∃ (d : Nat) (h : d / 32 + 1 < 33), d = min 1023 (rawDetune.toNat * s.cfg.scaleNum / s.cfg.scaleDen) ∧
        t.stgInc2.toNat = (t.stgInc1.toNat + t.stgInc1.toNat *
          (s.cfg.detuneCurve[d / 32].toNat +
            (s.cfg.detuneCurve[d / 32 + 1].toNat - s.cfg.detuneCurve[d / 32].toNat) * (d % 32) / 32) / 1024) % 65536) ∧
      t = { s with emaAcc := t.emaAcc, emaInit := t.emaInit, stgInc1 := t.stgInc1, stgInc2 := t.stgInc2 }

/-- The properties of the interpolated curve that 41_control_mapper.md section 4 derives (R131 items 1 and 2), with
the bound R124 gives: exact at the knots, non-decreasing, never above the last knot. -/
def Obligations.DetuneCurveIsExactAtKnotsAndRises : Prop :=
  ∀ c : Config, c.wf = true →
    (∀ k : Fin 32, detInterp c (32 * k.val) = c.detuneCurve[k.val].toNat) ∧
    (∀ d : Nat, d < 1023 → detInterp c d ≤ detInterp c (d + 1)) ∧
    (∀ d : Nat, d ≤ 1023 → detInterp c d ≤ c.detuneCurve[32].toNat)

/-- Zero detune gives unison for every note index and every table: in the staging registers (41_control_mapper.md
section 4, R131 item 3) and, through POLL.CTRL (section 3, R130), in the increments. That POLL.CTRL publishes whole
increments also with `ATOMIC16 = false` is the model's choice (log 11). -/
def Obligations.ZeroDetuneIsUnison : Prop :=
  ∀ (rawPitch rawDetune : U10) (s : State), s.cfg.wf = true → rescale s.cfg rawDetune = 0 →
    (∃ t, exec (.ctrlEval rawPitch rawDetune) s = .next t ∧ t.stgInc2 = t.stgInc1) ∧
    (∃ t, exec (.pollCtrl rawPitch rawDetune) s = .next t ∧ t.inc2 = t.inc1)

/-- With the default NOTE_TABLE and DETUNE_CURVE (the spec's decisions D8 and D9): the range of both increments, and
at full detune a ratio not below 320/214 and not above 3/2 (41_control_mapper.md section 4, R131 items 4 and 5). -/
def Obligations.DefaultTablesBoundTheIncrements : Prop :=
  ∀ (rawPitch rawDetune : U10) (s : State),
    s.cfg.noteTable = defaultNoteTable → s.cfg.detuneCurve = defaultDetuneCurve → s.emaAcc.toNat ≤ 16383 →
    ∃ t, exec (.ctrlEval rawPitch rawDetune) s = .next t ∧
      214 ≤ t.stgInc1.toNat ∧ t.stgInc1.toNat ≤ 13717 ∧
      t.stgInc1.toNat ≤ t.stgInc2.toNat ∧ t.stgInc2.toNat ≤ 20562 ∧
      (rescale s.cfg rawDetune = 1023 →
        320 * t.stgInc1.toNat ≤ 214 * t.stgInc2.toNat ∧ 2 * t.stgInc2.toNat ≤ 3 * t.stgInc1.toNat)

/-- With a constant pitch reading the smoothed reading reaches the rescaled reading and stays there (R121, corner
cases, derived there): from any accumulator within the bound of R132, after at most 16384 evaluations and ever
after. -/
def Obligations.SmoothedPitchReachesAConstantReading : Prop :=
  ∀ (n : Nat) (rawPitch rawDetune : U10) (s : State), s.emaAcc.toNat ≤ 16383 → 16384 ≤ n →
    ∃ t, runInstrs (List.replicate n (.ctrlEval rawPitch rawDetune)) s = .next t ∧
      smoothed t = rescale s.cfg rawPitch

/-- R203: the first evaluation after RESET, whatever else but RESET ran in between, sets EMA_ACC to 16 times the
rescaled reading and EMA_INIT to 1, so there is no ramp-in; the same for POLL.CTRL. -/
def Obligations.FirstEvaluationAfterResetHasNoRampIn : Prop :=
  ∀ (is : List Instr) (rawPitch rawDetune : U10) (s : State) (last : Instr),
    (∀ i ∈ is, (∀ p d, i ≠ .ctrlEval p d) ∧ (∀ p d, i ≠ .pollCtrl p d)) →
    (last = .ctrlEval rawPitch rawDetune ∨ last = .pollCtrl rawPitch rawDetune) →
    ∃ t, runInstrs (.reset :: (is ++ [last])) s = .next t ∧
      t.emaInit = true ∧ t.emaAcc.toNat = 16 * rescale s.cfg rawPitch ∧ smoothed t = rescale s.cfg rawPitch

/-- R31: EMA_INIT is 0 exactly while SMOOTH has not run since reset; once 1 it stays 1 until RESET. -/
def Obligations.EmaInitRecordsWhetherSmoothHasRun : Prop :=
  ∀ (is : List Instr) (s : State), (∀ i ∈ is, i ≠ .reset) →
    ∃ t, runInstrs (.reset :: is) s = .next t ∧
      (t.emaInit = true ↔ ∃ i ∈ is, ∃ p d, i = .ctrlEval p d ∨ i = .pollCtrl p d)

/-- R128 and R129 with `ATOMIC16 = true`: one 16-bit write of the increment, and nothing else. -/
def Obligations.AtomicPublicationCopiesTheStagingRegister : Prop :=
  ∀ s : State, s.cfg.atomic16 = true →
    exec .wrInc1 s = .next { s with inc1 := s.stgInc1 } ∧ exec .wrInc2 s = .next { s with inc2 := s.stgInc2 }

/-- R63 with `ATOMIC16 = false`: WR.INC1 and WR.INC2 write one byte of the increment, in either order, leave the other
byte to be written, and change nothing else. The form of the open order is the model's choice: the head of
`State.choices` decides which byte is first and is consumed (log 10); so is that the operation does the same in a
state already inside a publication, which no step reaches (log 17). -/
def Obligations.BytewisePublicationWritesOneByteFirst : Prop :=
  ∀ s : State, s.cfg.atomic16 = false →
    (∃ t, exec .wrInc1 s = .next t ∧
      ((t.inc1.toNat = s.inc1.toNat / 256 * 256 + s.stgInc1.toNat % 256 ∧ t.tornWrite = some ⟨.one, true⟩) ∨
       (t.inc1.toNat = s.stgInc1.toNat / 256 * 256 + s.inc1.toNat % 256 ∧ t.tornWrite = some ⟨.one, false⟩)) ∧
      (∀ b rest, s.choices = b :: rest → t.tornWrite = some ⟨.one, !b⟩ ∧ t.choices = rest) ∧
      t = { s with inc1 := t.inc1, tornWrite := t.tornWrite, choices := t.choices, freeCtr := t.freeCtr }) ∧
    (∃ t, exec .wrInc2 s = .next t ∧
      ((t.inc2.toNat = s.inc2.toNat / 256 * 256 + s.stgInc2.toNat % 256 ∧ t.tornWrite = some ⟨.two, true⟩) ∨
       (t.inc2.toNat = s.stgInc2.toNat / 256 * 256 + s.inc2.toNat % 256 ∧ t.tornWrite = some ⟨.two, false⟩)) ∧
      (∀ b rest, s.choices = b :: rest → t.tornWrite = some ⟨.two, !b⟩ ∧ t.choices = rest) ∧
      t = { s with inc2 := t.inc2, tornWrite := t.tornWrite, choices := t.choices, freeCtr := t.freeCtr })

/-- R63: the second byte write of a publication is a step of its own, and it ends the publication. It is the next step
when no operation of another agent stands next: the stream is empty, or its next word stands for no operation of the
tick context or the environment (an operation of the foreground, or a reserved word). That an empty stream and a
reserved word let the second byte write go first, and that the byte is taken from the staging register as it then
stands, is the model's choice (log 10; log 5 for reserved words). -/
def Obligations.SecondByteWriteIsAStepOfItsOwn : Prop :=
  ∀ (s : State) (b : ByteWrite), s.cfg.wf = true → s.tornWrite = some b →
    (∀ w rest i, s.stream = w :: rest → decode w = .ok i → i.agent = .foreground) →
    ∃ t, step s = .next t ∧
      (b = ⟨.one, true⟩ → t.inc1.toNat = s.stgInc1.toNat / 256 * 256 + s.inc1.toNat % 256 ∧ t.inc2 = s.inc2) ∧
      (b = ⟨.one, false⟩ → t.inc1.toNat = s.inc1.toNat / 256 * 256 + s.stgInc1.toNat % 256 ∧ t.inc2 = s.inc2) ∧
      (b = ⟨.two, true⟩ → t.inc2.toNat = s.stgInc2.toNat / 256 * 256 + s.inc2.toNat % 256 ∧ t.inc1 = s.inc1) ∧
      (b = ⟨.two, false⟩ → t.inc2.toNat = s.inc2.toNat / 256 * 256 + s.stgInc2.toNat % 256 ∧ t.inc1 = s.inc1) ∧
      t = { s with inc1 := t.inc1, inc2 := t.inc2, tornWrite := none }

/-- R70 with R63, for both voices: any number n of TICKs between the two byte writes of WR.INC1 or of WR.INC2, in
either byte order. Each of them advances the voice of the publication by its torn increment and the other voice by its
own; after the second byte write the increment is the new one, and the phase keeps the error. That the answers of
`State.choices` put the TICKs there, and that they may be any number where R70 speaks of one (93 U1 allows any), is
the model's choice (log 10). -/
def Obligations.TicksInsideAPublicationUseTheTornIncrement : Prop :=
  ∀ (n : Nat) (s : State) (v : Voice) (high : Bool) (rest : List FetchWord) (later : List Bool),
    s.cfg.wf = true → s.cfg.atomic16 = false → s.tornWrite = none →
    s.stream = .cmd (match v with | .one => 0x400000 | .two => 0x500000) ::
      (List.replicate n (.cmd 0x100000) ++ .cmd 0x100000 :: rest) →
    s.choices = high :: (List.replicate n true ++ false :: later) →
    ∃ (t : State) (torn : Nat), Host.Core.run core (n + 2) s = .next t ∧
      torn = (if high then (s.stg v).toNat / 256 * 256 + (s.inc v).toNat % 256
              else (s.inc v).toNat / 256 * 256 + (s.stg v).toNat % 256) ∧
      (t.phase v).toNat = ((s.phase v).toNat + n * torn) % 65536 ∧ t.inc v = s.stg v ∧
      (∀ u, u ≠ v → (t.phase u).toNat = ((s.phase u).toNat + n * (s.inc u).toNat) % 65536 ∧ t.inc u = s.inc u) ∧
      t.tornWrite = none ∧ t.stream = .cmd 0x100000 :: rest ∧ t.choices = later ∧
      (audioValues t.events).length = (audioValues s.events).length + n

/-- R65: a TICK between WR.INC1 and WR.INC2 advances voice 1 by the new base increment and voice 2 by the old detuned
increment. -/
def Obligations.TickBetweenTheTwoPublicationsUsesAMixedPair : Prop :=
  ∀ s : State, s.cfg.atomic16 = true →
    ∃ t, runInstrs [.wrInc1, .tick, .wrInc2] s = .next t ∧
      t.phase1.toNat = (s.phase1.toNat + s.stgInc1.toNat) % 65536 ∧
      t.phase2.toNat = (s.phase2.toNat + s.inc2.toNat) % 65536 ∧
      t.inc1 = s.stgInc1 ∧ t.inc2 = s.stgInc2

/-- R130: POLL.CTRL is CTRL.EVAL, WR.INC1, WR.INC2 in this order with no TICK between: both increments become what
CTRL.EVAL staged; with `ATOMIC16 = true` it is the same as the three operations issued one after another. That it
publishes whole increments in one step also with `ATOMIC16 = false` is the model's choice (log 11). -/
def Obligations.PollCtrlIsTheThreeStepsWithNoTickBetween : Prop :=
  ∀ (rawPitch rawDetune : U10) (s : State),
    (∃ t u, exec (.ctrlEval rawPitch rawDetune) s = .next u ∧ exec (.pollCtrl rawPitch rawDetune) s = .next t ∧
      t = { u with inc1 := u.stgInc1, inc2 := u.stgInc2 }) ∧
    (s.cfg.atomic16 = true →
      exec (.pollCtrl rawPitch rawDetune) s = runInstrs [.ctrlEval rawPitch rawDetune, .wrInc1, .wrInc2] s)

/-- "`CTRL.EVAL` touches only foreground-private state, so a `TICK` inside it equals a `TICK` before it" (20_memory.md
section 6, R71), for any number of TICKs. -/
def Obligations.TicksCommuteWithCtrlEval : Prop :=
  ∀ (n : Nat) (rawPitch rawDetune : U10) (s : State),
    runInstrs (List.replicate n .tick ++ [.ctrlEval rawPitch rawDetune]) s =
      runInstrs (.ctrlEval rawPitch rawDetune :: List.replicate n .tick) s

/-! ## Gesture detector (42_gesture_detector.md) -/

/-- R140: the bands, each reading in exactly one, a reading equal to a threshold in the band above it. -/
def Obligations.ClassifyPutsEachReadingInItsBand : Prop :=
  ∀ (c : Config) (v : U10), c.wf = true →
    (classify c v = .both ↔ v.toNat < c.vBoth) ∧
    (classify c v = .right ↔ c.vBoth ≤ v.toNat ∧ v.toNat < c.vRight) ∧
    (classify c v = .left ↔ c.vRight ≤ v.toNat ∧ v.toNat < c.vLeft) ∧
    (classify c v = .none ↔ c.vLeft ≤ v.toNat)

/-- R141: a poll in state NotPressed, for both values of CLASSIFY_ON_ENTRY. -/
def Obligations.PollInNotPressedArmsBelowThePressThreshold : Prop :=
  ∀ (v : U10) (s : State), s.gPhase = .notPressed →
    exec (.pollGest v) s = .next { s with
      gPhase := if v.toNat < s.cfg.vPress then .pressed else .notPressed
      gPeak := if s.cfg.classifyOnEntry = true ∧ v.toNat < s.cfg.vPress then classify s.cfg v else .none
      events := s.events ++ [.gesture .none] }

/-- R142: a poll in state Pressed at or below the release threshold keeps the maximum, compared by code (R81). -/
def Obligations.PollInPressedKeepsTheMaximum : Prop :=
  ∀ (v : U10) (s : State), s.gPhase = .pressed → v.toNat ≤ s.cfg.vRelease →
    exec (.pollGest v) s = .next { s with
      gPeak := if s.gPeak.code.toNat < (classify s.cfg v).code.toNat then classify s.cfg v else s.gPeak
      events := s.events ++ [.gesture .none] }

/-- R143 to R146: a poll in state Pressed above the release threshold emits the retained peak; on a peak other than
none SHAPE moves to its cyclic successor and the new shape is notified. That FB stands before the gesture result of
the same poll in the observation is the model's choice (log 12). -/
def Obligations.ReleasePollEmitsThePeakAndAdvancesTheShape : Prop :=
  ∀ (v : U10) (s : State), s.gPhase = .pressed → s.cfg.vRelease < v.toNat →
    (s.gPeak = .none →
      exec (.pollGest v) s = .next { s with gPhase := .notPressed, events := s.events ++ [.gesture .none] }) ∧
    (s.gPeak ≠ .none →
      exec (.pollGest v) s = .next { s with
        gPhase := .notPressed
        shape := BitVec.ofNat 8 ((s.shape.toNat + 1) % 4)
        events := s.events ++ [.feedback (BitVec.ofNat 2 (s.shape.toNat + 1)), .gesture s.gPeak] })

/-- A voltage that never drops below the press threshold never leaves NotPressed and never gives a result other than
none (42_gesture_detector.md section 4, R147 item 3). -/
def Obligations.VoltageAboveThePressThresholdNeverGestures : Prop :=
  ∀ (vs : List U10) (s : State), s.gPhase = .notPressed → (∀ v ∈ vs, s.cfg.vPress ≤ v.toNat) →
    ∃ t, runInstrs (vs.map .pollGest) s = .next t ∧ t.gPhase = .notPressed ∧ t.shape = s.shape ∧
      gestureResults t.events = gestureResults s.events ++ List.replicate vs.length .none ∧
      feedbackShapes t.events = feedbackShapes s.events

/-- A whole press (42_gesture_detector.md section 4, R147 items 1 and 2): entry, any number of readings not above the
release threshold, release. The release poll returns the largest class of the readings in between, the entry reading
counted with CLASSIFY_ON_ENTRY; any other poll returns none; SHAPE moves on exactly when that is not none. -/
def Obligations.APressReportsTheMaximumOfItsReadings : Prop :=
  ∀ (entry release : U10) (held : List U10) (s : State),
    s.cfg.wf = true → s.gPhase = .notPressed → entry.toNat < s.cfg.vPress →
    (∀ v ∈ held, v.toNat ≤ s.cfg.vRelease) → s.cfg.vRelease < release.toNat →
    ∃ (t : State) (peak : Button),
      runInstrs (.pollGest entry :: (held.map .pollGest ++ [.pollGest release])) s = .next t ∧
      peak = peakOf ((if s.cfg.classifyOnEntry then [classify s.cfg entry] else []) ++ held.map (classify s.cfg)) ∧
      gestureResults t.events = gestureResults s.events ++ List.replicate (held.length + 1) .none ++ [peak] ∧
      t.gPhase = .notPressed ∧ t.gPeak = peak ∧
      t.shape = (if peak = .none then s.shape else BitVec.ofNat 8 ((s.shape.toNat + 1) % 4)) ∧
      feedbackShapes t.events =
        feedbackShapes s.events ++ (if peak = .none then [] else [BitVec.ofNat 2 (s.shape.toNat + 1)])

/-- SHAPE after any run of operations without RESET is the number of confirmed gestures further on, modulo 4, and
there is one FB event for each (42_gesture_detector.md section 4, R147 item 5; R145, R146). -/
def Obligations.ShapeCountsTheConfirmedGestures : Prop :=
  ∀ (is : List Instr) (s : State), (∀ i ∈ is, i ≠ .reset) → s.shape.toNat < 4 →
    ∃ (t : State) (n : Nat), runInstrs is s = .next t ∧
      confirmedGestures t.events = confirmedGestures s.events + n ∧
      (feedbackShapes t.events).length = (feedbackShapes s.events).length + n ∧
      t.shape.toNat = (s.shape.toNat + n) % 4

/-! ## The whole machine -/

/-- A step issues the next word of the stream: the machine does what the operation does, with the word taken from the
stream. -/
def Obligations.AStepRunsTheDecodedOperation : Prop :=
  ∀ (s : State) (w : FetchWord) (rest : List FetchWord) (i : Instr),
    s.cfg.wf = true → s.tornWrite = none → s.stream = w :: rest → decode w = .ok i →
    step s = exec i { s with stream := rest }

/-- A word placed by `withFetchWord` is what the very next step runs. -/
def Obligations.APlacedWordRunsNext : Prop :=
  ∀ (s : State) (nbits w : Nat) (i : Instr), s.cfg.wf = true → decodeTableWord nbits w = some i →
    step (s.withFetchWord nbits w) = exec i { s with tornWrite := none }

/-- With an empty stream the machine stays as it is. That nothing issued is no change is the model's choice (log 1). -/
def Obligations.AnEmptyStreamIdles : Prop :=
  ∀ s : State, s.cfg.wf = true → s.tornWrite = none → s.stream = [] → step s = .next s

/-- R8: a configuration is accepted exactly when it meets the constraints (items 1 and 2 and the sizes and ranges of
item 3 are in the types of the tables), and the machine gives no next state under any other. -/
def Obligations.ConfigurationsBreakingTheConstraintsAreRejected : Prop :=
  (∀ c : Config, c.wf = true ↔
    ((∀ k : Fin 32, c.detuneCurve[k.val].toNat ≤ c.detuneCurve[k.val + 1].toNat) ∧ c.detuneCurve[0] = 0 ∧
     (1 ≤ c.scaleNum ∧ 1 ≤ c.scaleDen) ∧
     (c.vBoth < c.vRight ∧ c.vRight < c.vLeft ∧ c.vLeft ≤ c.vRelease ∧ c.vRelease ≤ 1023 ∧ c.vPress ≤ c.vRelease))) ∧
  (∀ s : State, s.cfg.wf = false → step s = .refused .badConfig)

/-- The invariant holds at reset, under every configuration that has a meaning and at `State.reset`. -/
def Obligations.ResetMeetsTheInvariant : Prop :=
  (∀ c : Config, c.wf = true → (State.resetWith c).Inv) ∧ State.reset.Inv

/-- Every step keeps the invariant: bits 7:2 of SHAPE stay 0 (R23), EMA_ACC stays within 16383 (R132), the staging
registers hold a note increment and its detuned increment once SMOOTH has run (R127, R131 item 5), a publication is
left half done only with `ATOMIC16 = false` (R63), and with `ATOMIC16 = true` INC1 and INC2 are never torn. -/
def Obligations.EveryStepKeepsTheInvariant : Prop :=
  ∀ s t : State, s.Inv → step s = .next t → t.Inv

/-- "The block raises no synchronous exception"; "Every operation ... is total: ... it has exactly one outcome, and
that outcome is a next state" (R180). Every operation answers a next state on every state; no state steps to a fault;
and from a state with a meaningful configuration and no reserved word in its stream, any number of steps gives a next
state, which is again such a state. That a step after the end of the stream answers a next state at all, the same
state, is the model's choice (log 1). -/
def Obligations.ASafeStreamNeverStops : Prop :=
  (∀ (i : Instr) (s : State), ∃ t, exec i s = .next t) ∧
  (∀ (s : State) (f : Fault), step s ≠ .fault f) ∧
  (∀ (k : Nat) (s : State), s.Safe → ∃ t, Host.Core.run core k s = .next t ∧ t.Safe)

/-- R36, the writers: which operations may change each register. -/
def Obligations.RegistersAreWrittenOnlyByTheirOwners : Prop :=
  ∀ (i : Instr) (s : State), i ≠ .reset → ∃ t, exec i s = .next t ∧
    (i.agent = .foreground → SameTickRegisters s t) ∧
    (i.agent = .tick → SameForegroundRegisters s t) ∧
    (t.inc1 ≠ s.inc1 → i = .wrInc1 ∨ ∃ p d, i = .pollCtrl p d) ∧
    (t.inc2 ≠ s.inc2 → i = .wrInc2 ∨ ∃ p d, i = .pollCtrl p d) ∧
    ((t.shape ≠ s.shape ∨ t.gPhase ≠ s.gPhase ∨ t.gPeak ≠ s.gPeak) → ∃ v, i = .pollGest v) ∧
    ((t.emaAcc ≠ s.emaAcc ∨ t.emaInit ≠ s.emaInit ∨ t.stgInc1 ≠ s.stgInc1 ∨ t.stgInc2 ≠ s.stgInc2) →
      ∃ p d, i = .ctrlEval p d ∨ i = .pollCtrl p d) ∧
    ((t.phase1 ≠ s.phase1 ∨ t.phase2 ≠ s.phase2 ∨ t.ticks ≠ s.ticks ∨ t.audioOut ≠ s.audioOut) → i = .tick)

/-- No run changes a table (R51, R61) or a parameter. That the parameters stand in the state and no step changes them is
the model's choice (log 2). -/
def Obligations.NoRunChangesATable : Prop :=
  ∀ (k : Nat) (s t : State), Host.Core.run core k s = .next t → t.cfg = s.cfg

/-- The observation (00_scope.md R6) only grows, by at most two events a step (the bound rests on R144,
R146, R160 and R165). That the observation is one list which only grows, through RESET
too, is the model's choice (log 12, log 16). -/
def Obligations.TheObservationOnlyGrows : Prop :=
  ∀ (k : Nat) (s t : State), Host.Core.run core k s = .next t →
    ∃ new, t.events = s.events ++ new ∧ new.length ≤ 2 * k
end

