-- ==== Sys2Proof/Laws/Decode.lean ====
section
/-! SUPPORT. The fields of a command word as numbers, and a word put together and taken apart (30_encoding.md R83). -/

namespace Sys2Proof

theorem opField_toNat (w : BitVec 24) : (opField w).toNat = w.toNat / 1048576 := by
  have := w.isLt
  simp [opField, Nat.shiftRight_eq_div_pow]; omega

theorem aField_toNat (w : BitVec 24) : (aField w).toNat = w.toNat / 1024 % 1024 := by
  simp [aField, Nat.shiftRight_eq_div_pow]

theorem bField_toNat (w : BitVec 24) : (bField w).toNat = w.toNat % 1024 := by simp [bField]

theorem cmdWord_toNat (op : BitVec 4) (a b : U10) :
    (cmdWord op a b).toNat = op.toNat * 1048576 + a.toNat * 1024 + b.toNat := by
  have ha := a.isLt
  have hb := b.isLt
  unfold cmdWord
  rw [BitVec.toNat_append, BitVec.toNat_append, Nat.shiftLeft_eq, Nat.shiftLeft_eq, Nat.mul_comm,
    ← Nat.two_pow_add_eq_or_of_lt hb, Nat.mul_comm op.toNat, ← Nat.two_pow_add_eq_or_of_lt ha]
  omega

@[simp] theorem opField_cmdWord (op : BitVec 4) (a b : U10) : opField (cmdWord op a b) = op := by
  have ha := a.isLt
  have hb := b.isLt
  apply BitVec.eq_of_toNat_eq
  rw [opField_toNat, cmdWord_toNat]; omega

@[simp] theorem aField_cmdWord (op : BitVec 4) (a b : U10) : aField (cmdWord op a b) = a := by
  have ha := a.isLt
  have hb := b.isLt
  apply BitVec.eq_of_toNat_eq
  rw [aField_toNat, cmdWord_toNat]; omega

@[simp] theorem bField_cmdWord (op : BitVec 4) (a b : U10) : bField (cmdWord op a b) = b := by
  have ha := a.isLt
  have hb := b.isLt
  apply BitVec.eq_of_toNat_eq
  rw [bField_toNat, cmdWord_toNat]; omega

/-- A word is its fields. -/
theorem cmdWord_fields (w : BitVec 24) : cmdWord (opField w) (aField w) (bField w) = w := by
  apply BitVec.eq_of_toNat_eq
  rw [cmdWord_toNat, opField_toNat, aField_toNat, bField_toNat]; omega

theorem decodeBare_ok_iff {w : BitVec 24} {i j : Instr} :
    decodeBare w i = .ok j ↔ aField w = 0 ∧ bField w = 0 ∧ j = i := by
  unfold decodeBare
  split
  · next h => simp [h.1, h.2, eq_comm]
  · next h => simp only [reduceCtorEq, false_iff]; tauto

/-- Everything the decoder accepts (30_encoding.md R84, R93). -/
theorem decodeCmd_ok_iff (w : BitVec 24) (i : Instr) : decodeCmd w = .ok i ↔
    (aField w = 0 ∧ bField w = 0 ∧
      ((w.toNat / 1048576 = 0 ∧ i = .nop) ∨ (w.toNat / 1048576 = 1 ∧ i = .tick) ∨
       (w.toNat / 1048576 = 4 ∧ i = .wrInc1) ∨ (w.toNat / 1048576 = 5 ∧ i = .wrInc2) ∨
       (w.toNat / 1048576 = 7 ∧ i = .rdTicks) ∨ (w.toNat / 1048576 = 15 ∧ i = .reset))) ∨
    (w.toNat / 1048576 = 2 ∧ i = .pollCtrl (aField w) (bField w)) ∨
    (w.toNat / 1048576 = 3 ∧ i = .ctrlEval (aField w) (bField w)) ∨
    (w.toNat / 1048576 = 6 ∧ aField w = 0 ∧ i = .pollGest (bField w)) := by
  unfold decodeCmd
  rw [opField_toNat]
  split <;> rename_i hop
  case h_7 =>
    split
    · next h => simp [hop, h, eq_comm]
    · next h =>
      simp only [reduceCtorEq, false_iff]
      rintro (⟨h0, -⟩ | ⟨h0, -⟩ | ⟨h0, -⟩ | ⟨-, h0, -⟩)
      · exact h h0
      · omega
      · omega
      · exact h h0
  case h_3 => simp [hop, eq_comm]
  case h_4 => simp [hop, eq_comm]
  case h_10 => simp_all
  all_goals (rw [decodeBare_ok_iff]; simp [hop])

/-- A mask of high ones clears the bits below. -/
theorem mask_clears_low (w : BitVec 24) (k : Nat) (hk : k < 24) :
    w &&& BitVec.ofNat 24 (16777216 - 2 ^ k) = BitVec.ofNat 24 (w.toNat / 2 ^ k * 2 ^ k) := by
  have h : BitVec.ofNat 24 (w.toNat / 2 ^ k * 2 ^ k) = (w >>> k) <<< k := by
    apply BitVec.eq_of_toNat_eq; simp [Nat.shiftRight_eq_div_pow, Nat.shiftLeft_eq]
  rw [h]
  interval_cases k <;> (apply BitVec.eq_of_getLsbD_eq; intro i hi; have : i < 24 := hi; interval_cases i <;> simp)

end Sys2Proof
end

