-- ==== Sys2Proof/Laws/State.lean ====
section
/-! SUPPORT. One lemma per field and update of `State`, so that no later proof unfolds an update. -/

namespace Sys2Proof.Machine

@[simp] theorem State.setTicks_phase1 (s : State) (x : U16) : (s.setTicks x).phase1 = s.phase1 := rfl
@[simp] theorem State.setTicks_phase2 (s : State) (x : U16) : (s.setTicks x).phase2 = s.phase2 := rfl
@[simp] theorem State.setTicks_inc1 (s : State) (x : U16) : (s.setTicks x).inc1 = s.inc1 := rfl
@[simp] theorem State.setTicks_inc2 (s : State) (x : U16) : (s.setTicks x).inc2 = s.inc2 := rfl
@[simp] theorem State.setTicks_shape (s : State) (x : U16) : (s.setTicks x).shape = s.shape := rfl
@[simp] theorem State.setTicks_ticks (s : State) (x : U16) : (s.setTicks x).ticks = x := rfl
@[simp] theorem State.setTicks_audioOut (s : State) (x : U16) : (s.setTicks x).audioOut = s.audioOut := rfl
@[simp] theorem State.setTicks_emaAcc (s : State) (x : U16) : (s.setTicks x).emaAcc = s.emaAcc := rfl
@[simp] theorem State.setTicks_emaInit (s : State) (x : U16) : (s.setTicks x).emaInit = s.emaInit := rfl
@[simp] theorem State.setTicks_gPhase (s : State) (x : U16) : (s.setTicks x).gPhase = s.gPhase := rfl
@[simp] theorem State.setTicks_gPeak (s : State) (x : U16) : (s.setTicks x).gPeak = s.gPeak := rfl
@[simp] theorem State.setTicks_stgInc1 (s : State) (x : U16) : (s.setTicks x).stgInc1 = s.stgInc1 := rfl
@[simp] theorem State.setTicks_stgInc2 (s : State) (x : U16) : (s.setTicks x).stgInc2 = s.stgInc2 := rfl
@[simp] theorem State.setTicks_tornWrite (s : State) (x : U16) : (s.setTicks x).tornWrite = s.tornWrite := rfl
@[simp] theorem State.setTicks_s1 (s : State) (x : U16) : (s.setTicks x).s1 = s.s1 := rfl
@[simp] theorem State.setTicks_s2 (s : State) (x : U16) : (s.setTicks x).s2 = s.s2 := rfl
@[simp] theorem State.setTicks_cfg (s : State) (x : U16) : (s.setTicks x).cfg = s.cfg := rfl
@[simp] theorem State.setTicks_stream (s : State) (x : U16) : (s.setTicks x).stream = s.stream := rfl
@[simp] theorem State.setTicks_events (s : State) (x : U16) : (s.setTicks x).events = s.events := rfl
@[simp] theorem State.setTicks_choices (s : State) (x : U16) : (s.setTicks x).choices = s.choices := rfl
@[simp] theorem State.setTicks_freeCtr (s : State) (x : U16) : (s.setTicks x).freeCtr = s.freeCtr := rfl

@[simp] theorem State.setShape_phase1 (s : State) (x : U8) : (s.setShape x).phase1 = s.phase1 := rfl
@[simp] theorem State.setShape_phase2 (s : State) (x : U8) : (s.setShape x).phase2 = s.phase2 := rfl
@[simp] theorem State.setShape_inc1 (s : State) (x : U8) : (s.setShape x).inc1 = s.inc1 := rfl
@[simp] theorem State.setShape_inc2 (s : State) (x : U8) : (s.setShape x).inc2 = s.inc2 := rfl
@[simp] theorem State.setShape_shape (s : State) (x : U8) : (s.setShape x).shape = x := rfl
@[simp] theorem State.setShape_ticks (s : State) (x : U8) : (s.setShape x).ticks = s.ticks := rfl
@[simp] theorem State.setShape_audioOut (s : State) (x : U8) : (s.setShape x).audioOut = s.audioOut := rfl
@[simp] theorem State.setShape_emaAcc (s : State) (x : U8) : (s.setShape x).emaAcc = s.emaAcc := rfl
@[simp] theorem State.setShape_emaInit (s : State) (x : U8) : (s.setShape x).emaInit = s.emaInit := rfl
@[simp] theorem State.setShape_gPhase (s : State) (x : U8) : (s.setShape x).gPhase = s.gPhase := rfl
@[simp] theorem State.setShape_gPeak (s : State) (x : U8) : (s.setShape x).gPeak = s.gPeak := rfl
@[simp] theorem State.setShape_stgInc1 (s : State) (x : U8) : (s.setShape x).stgInc1 = s.stgInc1 := rfl
@[simp] theorem State.setShape_stgInc2 (s : State) (x : U8) : (s.setShape x).stgInc2 = s.stgInc2 := rfl
@[simp] theorem State.setShape_tornWrite (s : State) (x : U8) : (s.setShape x).tornWrite = s.tornWrite := rfl
@[simp] theorem State.setShape_s1 (s : State) (x : U8) : (s.setShape x).s1 = s.s1 := rfl
@[simp] theorem State.setShape_s2 (s : State) (x : U8) : (s.setShape x).s2 = s.s2 := rfl
@[simp] theorem State.setShape_cfg (s : State) (x : U8) : (s.setShape x).cfg = s.cfg := rfl
@[simp] theorem State.setShape_stream (s : State) (x : U8) : (s.setShape x).stream = s.stream := rfl
@[simp] theorem State.setShape_events (s : State) (x : U8) : (s.setShape x).events = s.events := rfl
@[simp] theorem State.setShape_choices (s : State) (x : U8) : (s.setShape x).choices = s.choices := rfl
@[simp] theorem State.setShape_freeCtr (s : State) (x : U8) : (s.setShape x).freeCtr = s.freeCtr := rfl

@[simp] theorem State.setGPeak_phase1 (s : State) (b : Button) : (s.setGPeak b).phase1 = s.phase1 := rfl
@[simp] theorem State.setGPeak_phase2 (s : State) (b : Button) : (s.setGPeak b).phase2 = s.phase2 := rfl
@[simp] theorem State.setGPeak_inc1 (s : State) (b : Button) : (s.setGPeak b).inc1 = s.inc1 := rfl
@[simp] theorem State.setGPeak_inc2 (s : State) (b : Button) : (s.setGPeak b).inc2 = s.inc2 := rfl
@[simp] theorem State.setGPeak_shape (s : State) (b : Button) : (s.setGPeak b).shape = s.shape := rfl
@[simp] theorem State.setGPeak_ticks (s : State) (b : Button) : (s.setGPeak b).ticks = s.ticks := rfl
@[simp] theorem State.setGPeak_audioOut (s : State) (b : Button) : (s.setGPeak b).audioOut = s.audioOut := rfl
@[simp] theorem State.setGPeak_emaAcc (s : State) (b : Button) : (s.setGPeak b).emaAcc = s.emaAcc := rfl
@[simp] theorem State.setGPeak_emaInit (s : State) (b : Button) : (s.setGPeak b).emaInit = s.emaInit := rfl
@[simp] theorem State.setGPeak_gPhase (s : State) (b : Button) : (s.setGPeak b).gPhase = s.gPhase := rfl
@[simp] theorem State.setGPeak_gPeak (s : State) (b : Button) : (s.setGPeak b).gPeak = b := rfl
@[simp] theorem State.setGPeak_stgInc1 (s : State) (b : Button) : (s.setGPeak b).stgInc1 = s.stgInc1 := rfl
@[simp] theorem State.setGPeak_stgInc2 (s : State) (b : Button) : (s.setGPeak b).stgInc2 = s.stgInc2 := rfl
@[simp] theorem State.setGPeak_tornWrite (s : State) (b : Button) : (s.setGPeak b).tornWrite = s.tornWrite := rfl
@[simp] theorem State.setGPeak_s1 (s : State) (b : Button) : (s.setGPeak b).s1 = s.s1 := rfl
@[simp] theorem State.setGPeak_s2 (s : State) (b : Button) : (s.setGPeak b).s2 = s.s2 := rfl
@[simp] theorem State.setGPeak_cfg (s : State) (b : Button) : (s.setGPeak b).cfg = s.cfg := rfl
@[simp] theorem State.setGPeak_stream (s : State) (b : Button) : (s.setGPeak b).stream = s.stream := rfl
@[simp] theorem State.setGPeak_events (s : State) (b : Button) : (s.setGPeak b).events = s.events := rfl
@[simp] theorem State.setGPeak_choices (s : State) (b : Button) : (s.setGPeak b).choices = s.choices := rfl
@[simp] theorem State.setGPeak_freeCtr (s : State) (b : Button) : (s.setGPeak b).freeCtr = s.freeCtr := rfl

@[simp] theorem State.setGPhase_phase1 (s : State) (p : GesturePhase) : (s.setGPhase p).phase1 = s.phase1 := rfl
@[simp] theorem State.setGPhase_phase2 (s : State) (p : GesturePhase) : (s.setGPhase p).phase2 = s.phase2 := rfl
@[simp] theorem State.setGPhase_inc1 (s : State) (p : GesturePhase) : (s.setGPhase p).inc1 = s.inc1 := rfl
@[simp] theorem State.setGPhase_inc2 (s : State) (p : GesturePhase) : (s.setGPhase p).inc2 = s.inc2 := rfl
@[simp] theorem State.setGPhase_shape (s : State) (p : GesturePhase) : (s.setGPhase p).shape = s.shape := rfl
@[simp] theorem State.setGPhase_ticks (s : State) (p : GesturePhase) : (s.setGPhase p).ticks = s.ticks := rfl
@[simp] theorem State.setGPhase_audioOut (s : State) (p : GesturePhase) : (s.setGPhase p).audioOut = s.audioOut := rfl
@[simp] theorem State.setGPhase_emaAcc (s : State) (p : GesturePhase) : (s.setGPhase p).emaAcc = s.emaAcc := rfl
@[simp] theorem State.setGPhase_emaInit (s : State) (p : GesturePhase) : (s.setGPhase p).emaInit = s.emaInit := rfl
@[simp] theorem State.setGPhase_gPhase (s : State) (p : GesturePhase) : (s.setGPhase p).gPhase = p := rfl
@[simp] theorem State.setGPhase_gPeak (s : State) (p : GesturePhase) : (s.setGPhase p).gPeak = s.gPeak := rfl
@[simp] theorem State.setGPhase_stgInc1 (s : State) (p : GesturePhase) : (s.setGPhase p).stgInc1 = s.stgInc1 := rfl
@[simp] theorem State.setGPhase_stgInc2 (s : State) (p : GesturePhase) : (s.setGPhase p).stgInc2 = s.stgInc2 := rfl
@[simp] theorem State.setGPhase_tornWrite (s : State) (p : GesturePhase) : (s.setGPhase p).tornWrite = s.tornWrite := rfl
@[simp] theorem State.setGPhase_s1 (s : State) (p : GesturePhase) : (s.setGPhase p).s1 = s.s1 := rfl
@[simp] theorem State.setGPhase_s2 (s : State) (p : GesturePhase) : (s.setGPhase p).s2 = s.s2 := rfl
@[simp] theorem State.setGPhase_cfg (s : State) (p : GesturePhase) : (s.setGPhase p).cfg = s.cfg := rfl
@[simp] theorem State.setGPhase_stream (s : State) (p : GesturePhase) : (s.setGPhase p).stream = s.stream := rfl
@[simp] theorem State.setGPhase_events (s : State) (p : GesturePhase) : (s.setGPhase p).events = s.events := rfl
@[simp] theorem State.setGPhase_choices (s : State) (p : GesturePhase) : (s.setGPhase p).choices = s.choices := rfl
@[simp] theorem State.setGPhase_freeCtr (s : State) (p : GesturePhase) : (s.setGPhase p).freeCtr = s.freeCtr := rfl

@[simp] theorem State.markSmoothed_phase1 (s : State) : (s.markSmoothed).phase1 = s.phase1 := rfl
@[simp] theorem State.markSmoothed_phase2 (s : State) : (s.markSmoothed).phase2 = s.phase2 := rfl
@[simp] theorem State.markSmoothed_inc1 (s : State) : (s.markSmoothed).inc1 = s.inc1 := rfl
@[simp] theorem State.markSmoothed_inc2 (s : State) : (s.markSmoothed).inc2 = s.inc2 := rfl
@[simp] theorem State.markSmoothed_shape (s : State) : (s.markSmoothed).shape = s.shape := rfl
@[simp] theorem State.markSmoothed_ticks (s : State) : (s.markSmoothed).ticks = s.ticks := rfl
@[simp] theorem State.markSmoothed_audioOut (s : State) : (s.markSmoothed).audioOut = s.audioOut := rfl
@[simp] theorem State.markSmoothed_emaAcc (s : State) : (s.markSmoothed).emaAcc = s.emaAcc := rfl
@[simp] theorem State.markSmoothed_emaInit (s : State) : (s.markSmoothed).emaInit = true := rfl
@[simp] theorem State.markSmoothed_gPhase (s : State) : (s.markSmoothed).gPhase = s.gPhase := rfl
@[simp] theorem State.markSmoothed_gPeak (s : State) : (s.markSmoothed).gPeak = s.gPeak := rfl
@[simp] theorem State.markSmoothed_stgInc1 (s : State) : (s.markSmoothed).stgInc1 = s.stgInc1 := rfl
@[simp] theorem State.markSmoothed_stgInc2 (s : State) : (s.markSmoothed).stgInc2 = s.stgInc2 := rfl
@[simp] theorem State.markSmoothed_tornWrite (s : State) : (s.markSmoothed).tornWrite = s.tornWrite := rfl
@[simp] theorem State.markSmoothed_s1 (s : State) : (s.markSmoothed).s1 = s.s1 := rfl
@[simp] theorem State.markSmoothed_s2 (s : State) : (s.markSmoothed).s2 = s.s2 := rfl
@[simp] theorem State.markSmoothed_cfg (s : State) : (s.markSmoothed).cfg = s.cfg := rfl
@[simp] theorem State.markSmoothed_stream (s : State) : (s.markSmoothed).stream = s.stream := rfl
@[simp] theorem State.markSmoothed_events (s : State) : (s.markSmoothed).events = s.events := rfl
@[simp] theorem State.markSmoothed_choices (s : State) : (s.markSmoothed).choices = s.choices := rfl
@[simp] theorem State.markSmoothed_freeCtr (s : State) : (s.markSmoothed).freeCtr = s.freeCtr := rfl

@[simp] theorem State.setSamples_phase1 (s : State) (x y : U8) : (s.setSamples x y).phase1 = s.phase1 := rfl
@[simp] theorem State.setSamples_phase2 (s : State) (x y : U8) : (s.setSamples x y).phase2 = s.phase2 := rfl
@[simp] theorem State.setSamples_inc1 (s : State) (x y : U8) : (s.setSamples x y).inc1 = s.inc1 := rfl
@[simp] theorem State.setSamples_inc2 (s : State) (x y : U8) : (s.setSamples x y).inc2 = s.inc2 := rfl
@[simp] theorem State.setSamples_shape (s : State) (x y : U8) : (s.setSamples x y).shape = s.shape := rfl
@[simp] theorem State.setSamples_ticks (s : State) (x y : U8) : (s.setSamples x y).ticks = s.ticks := rfl
@[simp] theorem State.setSamples_audioOut (s : State) (x y : U8) : (s.setSamples x y).audioOut = s.audioOut := rfl
@[simp] theorem State.setSamples_emaAcc (s : State) (x y : U8) : (s.setSamples x y).emaAcc = s.emaAcc := rfl
@[simp] theorem State.setSamples_emaInit (s : State) (x y : U8) : (s.setSamples x y).emaInit = s.emaInit := rfl
@[simp] theorem State.setSamples_gPhase (s : State) (x y : U8) : (s.setSamples x y).gPhase = s.gPhase := rfl
@[simp] theorem State.setSamples_gPeak (s : State) (x y : U8) : (s.setSamples x y).gPeak = s.gPeak := rfl
@[simp] theorem State.setSamples_stgInc1 (s : State) (x y : U8) : (s.setSamples x y).stgInc1 = s.stgInc1 := rfl
@[simp] theorem State.setSamples_stgInc2 (s : State) (x y : U8) : (s.setSamples x y).stgInc2 = s.stgInc2 := rfl
@[simp] theorem State.setSamples_tornWrite (s : State) (x y : U8) : (s.setSamples x y).tornWrite = s.tornWrite := rfl
@[simp] theorem State.setSamples_s1 (s : State) (x y : U8) : (s.setSamples x y).s1 = x := rfl
@[simp] theorem State.setSamples_s2 (s : State) (x y : U8) : (s.setSamples x y).s2 = y := rfl
@[simp] theorem State.setSamples_cfg (s : State) (x y : U8) : (s.setSamples x y).cfg = s.cfg := rfl
@[simp] theorem State.setSamples_stream (s : State) (x y : U8) : (s.setSamples x y).stream = s.stream := rfl
@[simp] theorem State.setSamples_events (s : State) (x y : U8) : (s.setSamples x y).events = s.events := rfl
@[simp] theorem State.setSamples_choices (s : State) (x y : U8) : (s.setSamples x y).choices = s.choices := rfl
@[simp] theorem State.setSamples_freeCtr (s : State) (x y : U8) : (s.setSamples x y).freeCtr = s.freeCtr := rfl

@[simp] theorem State.emit_phase1 (s : State) (e : Event) : (s.emit e).phase1 = s.phase1 := rfl
@[simp] theorem State.emit_phase2 (s : State) (e : Event) : (s.emit e).phase2 = s.phase2 := rfl
@[simp] theorem State.emit_inc1 (s : State) (e : Event) : (s.emit e).inc1 = s.inc1 := rfl
@[simp] theorem State.emit_inc2 (s : State) (e : Event) : (s.emit e).inc2 = s.inc2 := rfl
@[simp] theorem State.emit_shape (s : State) (e : Event) : (s.emit e).shape = s.shape := rfl
@[simp] theorem State.emit_ticks (s : State) (e : Event) : (s.emit e).ticks = s.ticks := rfl
@[simp] theorem State.emit_audioOut (s : State) (e : Event) : (s.emit e).audioOut = s.audioOut := rfl
@[simp] theorem State.emit_emaAcc (s : State) (e : Event) : (s.emit e).emaAcc = s.emaAcc := rfl
@[simp] theorem State.emit_emaInit (s : State) (e : Event) : (s.emit e).emaInit = s.emaInit := rfl
@[simp] theorem State.emit_gPhase (s : State) (e : Event) : (s.emit e).gPhase = s.gPhase := rfl
@[simp] theorem State.emit_gPeak (s : State) (e : Event) : (s.emit e).gPeak = s.gPeak := rfl
@[simp] theorem State.emit_stgInc1 (s : State) (e : Event) : (s.emit e).stgInc1 = s.stgInc1 := rfl
@[simp] theorem State.emit_stgInc2 (s : State) (e : Event) : (s.emit e).stgInc2 = s.stgInc2 := rfl
@[simp] theorem State.emit_tornWrite (s : State) (e : Event) : (s.emit e).tornWrite = s.tornWrite := rfl
@[simp] theorem State.emit_s1 (s : State) (e : Event) : (s.emit e).s1 = s.s1 := rfl
@[simp] theorem State.emit_s2 (s : State) (e : Event) : (s.emit e).s2 = s.s2 := rfl
@[simp] theorem State.emit_cfg (s : State) (e : Event) : (s.emit e).cfg = s.cfg := rfl
@[simp] theorem State.emit_stream (s : State) (e : Event) : (s.emit e).stream = s.stream := rfl
@[simp] theorem State.emit_events (s : State) (e : Event) : (s.emit e).events = s.events ++ [e] := rfl
@[simp] theorem State.emit_choices (s : State) (e : Event) : (s.emit e).choices = s.choices := rfl
@[simp] theorem State.emit_freeCtr (s : State) (e : Event) : (s.emit e).freeCtr = s.freeCtr := rfl

@[simp] theorem State.writeAudio_phase1 (s : State) (x : U8) : (s.writeAudio x).phase1 = s.phase1 := rfl
@[simp] theorem State.writeAudio_phase2 (s : State) (x : U8) : (s.writeAudio x).phase2 = s.phase2 := rfl
@[simp] theorem State.writeAudio_inc1 (s : State) (x : U8) : (s.writeAudio x).inc1 = s.inc1 := rfl
@[simp] theorem State.writeAudio_inc2 (s : State) (x : U8) : (s.writeAudio x).inc2 = s.inc2 := rfl
@[simp] theorem State.writeAudio_shape (s : State) (x : U8) : (s.writeAudio x).shape = s.shape := rfl
@[simp] theorem State.writeAudio_ticks (s : State) (x : U8) : (s.writeAudio x).ticks = s.ticks := rfl
@[simp] theorem State.writeAudio_audioOut (s : State) (x : U8) : (s.writeAudio x).audioOut = x := rfl
@[simp] theorem State.writeAudio_emaAcc (s : State) (x : U8) : (s.writeAudio x).emaAcc = s.emaAcc := rfl
@[simp] theorem State.writeAudio_emaInit (s : State) (x : U8) : (s.writeAudio x).emaInit = s.emaInit := rfl
@[simp] theorem State.writeAudio_gPhase (s : State) (x : U8) : (s.writeAudio x).gPhase = s.gPhase := rfl
@[simp] theorem State.writeAudio_gPeak (s : State) (x : U8) : (s.writeAudio x).gPeak = s.gPeak := rfl
@[simp] theorem State.writeAudio_stgInc1 (s : State) (x : U8) : (s.writeAudio x).stgInc1 = s.stgInc1 := rfl
@[simp] theorem State.writeAudio_stgInc2 (s : State) (x : U8) : (s.writeAudio x).stgInc2 = s.stgInc2 := rfl
@[simp] theorem State.writeAudio_tornWrite (s : State) (x : U8) : (s.writeAudio x).tornWrite = s.tornWrite := rfl
@[simp] theorem State.writeAudio_s1 (s : State) (x : U8) : (s.writeAudio x).s1 = s.s1 := rfl
@[simp] theorem State.writeAudio_s2 (s : State) (x : U8) : (s.writeAudio x).s2 = s.s2 := rfl
@[simp] theorem State.writeAudio_cfg (s : State) (x : U8) : (s.writeAudio x).cfg = s.cfg := rfl
@[simp] theorem State.writeAudio_stream (s : State) (x : U8) : (s.writeAudio x).stream = s.stream := rfl
@[simp] theorem State.writeAudio_events (s : State) (x : U8) : (s.writeAudio x).events = s.events ++ [.audio x] := rfl
@[simp] theorem State.writeAudio_choices (s : State) (x : U8) : (s.writeAudio x).choices = s.choices := rfl
@[simp] theorem State.writeAudio_freeCtr (s : State) (x : U8) : (s.writeAudio x).freeCtr = s.freeCtr := rfl

@[simp] theorem State.resetRegisters_phase1 (s : State) : (s.resetRegisters).phase1 = 0 := rfl
@[simp] theorem State.resetRegisters_phase2 (s : State) : (s.resetRegisters).phase2 = 0 := rfl
@[simp] theorem State.resetRegisters_inc1 (s : State) : (s.resetRegisters).inc1 = 0 := rfl
@[simp] theorem State.resetRegisters_inc2 (s : State) : (s.resetRegisters).inc2 = 0 := rfl
@[simp] theorem State.resetRegisters_shape (s : State) : (s.resetRegisters).shape = 0 := rfl
@[simp] theorem State.resetRegisters_ticks (s : State) : (s.resetRegisters).ticks = 0 := rfl
@[simp] theorem State.resetRegisters_audioOut (s : State) : (s.resetRegisters).audioOut = Config.freeAudio s.freeCtr := rfl
@[simp] theorem State.resetRegisters_emaAcc (s : State) : (s.resetRegisters).emaAcc = 0 := rfl
@[simp] theorem State.resetRegisters_emaInit (s : State) : (s.resetRegisters).emaInit = false := rfl
@[simp] theorem State.resetRegisters_gPhase (s : State) : (s.resetRegisters).gPhase = .notPressed := rfl
@[simp] theorem State.resetRegisters_gPeak (s : State) : (s.resetRegisters).gPeak = .none := rfl
@[simp] theorem State.resetRegisters_stgInc1 (s : State) : (s.resetRegisters).stgInc1 = 0 := rfl
@[simp] theorem State.resetRegisters_stgInc2 (s : State) : (s.resetRegisters).stgInc2 = 0 := rfl
@[simp] theorem State.resetRegisters_tornWrite (s : State) : (s.resetRegisters).tornWrite = none := rfl
@[simp] theorem State.resetRegisters_s1 (s : State) : (s.resetRegisters).s1 = 0 := rfl
@[simp] theorem State.resetRegisters_s2 (s : State) : (s.resetRegisters).s2 = 0 := rfl
@[simp] theorem State.resetRegisters_cfg (s : State) : (s.resetRegisters).cfg = s.cfg := rfl
@[simp] theorem State.resetRegisters_stream (s : State) : (s.resetRegisters).stream = s.stream := rfl
@[simp] theorem State.resetRegisters_events (s : State) : (s.resetRegisters).events = s.events := rfl
@[simp] theorem State.resetRegisters_choices (s : State) : (s.resetRegisters).choices = s.choices := rfl
@[simp] theorem State.resetRegisters_freeCtr (s : State) : (s.resetRegisters).freeCtr = s.freeCtr + 1 := rfl

@[simp] theorem State.setPhase_one_phase1 (s : State) (x : U16) : (s.setPhase .one x).phase1 = x := rfl
@[simp] theorem State.setPhase_one_phase2 (s : State) (x : U16) : (s.setPhase .one x).phase2 = s.phase2 := rfl
@[simp] theorem State.setPhase_two_phase1 (s : State) (x : U16) : (s.setPhase .two x).phase1 = s.phase1 := rfl
@[simp] theorem State.setPhase_two_phase2 (s : State) (x : U16) : (s.setPhase .two x).phase2 = x := rfl
@[simp] theorem State.setPhase_inc1 (s : State) (v : Voice) (x : U16) : (s.setPhase v x).inc1 = s.inc1 := by cases v <;> rfl
@[simp] theorem State.setPhase_inc2 (s : State) (v : Voice) (x : U16) : (s.setPhase v x).inc2 = s.inc2 := by cases v <;> rfl
@[simp] theorem State.setPhase_shape (s : State) (v : Voice) (x : U16) : (s.setPhase v x).shape = s.shape := by cases v <;> rfl
@[simp] theorem State.setPhase_ticks (s : State) (v : Voice) (x : U16) : (s.setPhase v x).ticks = s.ticks := by cases v <;> rfl
@[simp] theorem State.setPhase_audioOut (s : State) (v : Voice) (x : U16) : (s.setPhase v x).audioOut = s.audioOut := by cases v <;> rfl
@[simp] theorem State.setPhase_emaAcc (s : State) (v : Voice) (x : U16) : (s.setPhase v x).emaAcc = s.emaAcc := by cases v <;> rfl
@[simp] theorem State.setPhase_emaInit (s : State) (v : Voice) (x : U16) : (s.setPhase v x).emaInit = s.emaInit := by cases v <;> rfl
@[simp] theorem State.setPhase_gPhase (s : State) (v : Voice) (x : U16) : (s.setPhase v x).gPhase = s.gPhase := by cases v <;> rfl
@[simp] theorem State.setPhase_gPeak (s : State) (v : Voice) (x : U16) : (s.setPhase v x).gPeak = s.gPeak := by cases v <;> rfl
@[simp] theorem State.setPhase_stgInc1 (s : State) (v : Voice) (x : U16) : (s.setPhase v x).stgInc1 = s.stgInc1 := by cases v <;> rfl
@[simp] theorem State.setPhase_stgInc2 (s : State) (v : Voice) (x : U16) : (s.setPhase v x).stgInc2 = s.stgInc2 := by cases v <;> rfl
@[simp] theorem State.setPhase_tornWrite (s : State) (v : Voice) (x : U16) : (s.setPhase v x).tornWrite = s.tornWrite := by cases v <;> rfl
@[simp] theorem State.setPhase_s1 (s : State) (v : Voice) (x : U16) : (s.setPhase v x).s1 = s.s1 := by cases v <;> rfl
@[simp] theorem State.setPhase_s2 (s : State) (v : Voice) (x : U16) : (s.setPhase v x).s2 = s.s2 := by cases v <;> rfl
@[simp] theorem State.setPhase_cfg (s : State) (v : Voice) (x : U16) : (s.setPhase v x).cfg = s.cfg := by cases v <;> rfl
@[simp] theorem State.setPhase_stream (s : State) (v : Voice) (x : U16) : (s.setPhase v x).stream = s.stream := by cases v <;> rfl
@[simp] theorem State.setPhase_events (s : State) (v : Voice) (x : U16) : (s.setPhase v x).events = s.events := by cases v <;> rfl
@[simp] theorem State.setPhase_choices (s : State) (v : Voice) (x : U16) : (s.setPhase v x).choices = s.choices := by cases v <;> rfl
@[simp] theorem State.setPhase_freeCtr (s : State) (v : Voice) (x : U16) : (s.setPhase v x).freeCtr = s.freeCtr := by cases v <;> rfl

@[simp] theorem State.setInc_one_inc1 (s : State) (x : U16) : (s.setInc .one x).inc1 = x := rfl
@[simp] theorem State.setInc_one_inc2 (s : State) (x : U16) : (s.setInc .one x).inc2 = s.inc2 := rfl
@[simp] theorem State.setInc_two_inc1 (s : State) (x : U16) : (s.setInc .two x).inc1 = s.inc1 := rfl
@[simp] theorem State.setInc_two_inc2 (s : State) (x : U16) : (s.setInc .two x).inc2 = x := rfl
@[simp] theorem State.setInc_phase1 (s : State) (v : Voice) (x : U16) : (s.setInc v x).phase1 = s.phase1 := by cases v <;> rfl
@[simp] theorem State.setInc_phase2 (s : State) (v : Voice) (x : U16) : (s.setInc v x).phase2 = s.phase2 := by cases v <;> rfl
@[simp] theorem State.setInc_shape (s : State) (v : Voice) (x : U16) : (s.setInc v x).shape = s.shape := by cases v <;> rfl
@[simp] theorem State.setInc_ticks (s : State) (v : Voice) (x : U16) : (s.setInc v x).ticks = s.ticks := by cases v <;> rfl
@[simp] theorem State.setInc_audioOut (s : State) (v : Voice) (x : U16) : (s.setInc v x).audioOut = s.audioOut := by cases v <;> rfl
@[simp] theorem State.setInc_emaAcc (s : State) (v : Voice) (x : U16) : (s.setInc v x).emaAcc = s.emaAcc := by cases v <;> rfl
@[simp] theorem State.setInc_emaInit (s : State) (v : Voice) (x : U16) : (s.setInc v x).emaInit = s.emaInit := by cases v <;> rfl
@[simp] theorem State.setInc_gPhase (s : State) (v : Voice) (x : U16) : (s.setInc v x).gPhase = s.gPhase := by cases v <;> rfl
@[simp] theorem State.setInc_gPeak (s : State) (v : Voice) (x : U16) : (s.setInc v x).gPeak = s.gPeak := by cases v <;> rfl
@[simp] theorem State.setInc_stgInc1 (s : State) (v : Voice) (x : U16) : (s.setInc v x).stgInc1 = s.stgInc1 := by cases v <;> rfl
@[simp] theorem State.setInc_stgInc2 (s : State) (v : Voice) (x : U16) : (s.setInc v x).stgInc2 = s.stgInc2 := by cases v <;> rfl
@[simp] theorem State.setInc_tornWrite (s : State) (v : Voice) (x : U16) : (s.setInc v x).tornWrite = s.tornWrite := by cases v <;> rfl
@[simp] theorem State.setInc_s1 (s : State) (v : Voice) (x : U16) : (s.setInc v x).s1 = s.s1 := by cases v <;> rfl
@[simp] theorem State.setInc_s2 (s : State) (v : Voice) (x : U16) : (s.setInc v x).s2 = s.s2 := by cases v <;> rfl
@[simp] theorem State.setInc_cfg (s : State) (v : Voice) (x : U16) : (s.setInc v x).cfg = s.cfg := by cases v <;> rfl
@[simp] theorem State.setInc_stream (s : State) (v : Voice) (x : U16) : (s.setInc v x).stream = s.stream := by cases v <;> rfl
@[simp] theorem State.setInc_events (s : State) (v : Voice) (x : U16) : (s.setInc v x).events = s.events := by cases v <;> rfl
@[simp] theorem State.setInc_choices (s : State) (v : Voice) (x : U16) : (s.setInc v x).choices = s.choices := by cases v <;> rfl
@[simp] theorem State.setInc_freeCtr (s : State) (v : Voice) (x : U16) : (s.setInc v x).freeCtr = s.freeCtr := by cases v <;> rfl

@[simp] theorem State.phase_one (s : State) : s.phase .one = s.phase1 := rfl
@[simp] theorem State.phase_two (s : State) : s.phase .two = s.phase2 := rfl
@[simp] theorem State.inc_one (s : State) : s.inc .one = s.inc1 := rfl
@[simp] theorem State.inc_two (s : State) : s.inc .two = s.inc2 := rfl
@[simp] theorem State.stg_one (s : State) : s.stg .one = s.stgInc1 := rfl
@[simp] theorem State.stg_two (s : State) : s.stg .two = s.stgInc2 := rfl

@[simp] theorem State.afterChoice_phase1 (s : State) : s.afterChoice.phase1 = s.phase1 := by unfold State.afterChoice; split <;> rfl
@[simp] theorem State.afterChoice_phase2 (s : State) : s.afterChoice.phase2 = s.phase2 := by unfold State.afterChoice; split <;> rfl
@[simp] theorem State.afterChoice_inc1 (s : State) : s.afterChoice.inc1 = s.inc1 := by unfold State.afterChoice; split <;> rfl
@[simp] theorem State.afterChoice_inc2 (s : State) : s.afterChoice.inc2 = s.inc2 := by unfold State.afterChoice; split <;> rfl
@[simp] theorem State.afterChoice_shape (s : State) : s.afterChoice.shape = s.shape := by unfold State.afterChoice; split <;> rfl
@[simp] theorem State.afterChoice_ticks (s : State) : s.afterChoice.ticks = s.ticks := by unfold State.afterChoice; split <;> rfl
@[simp] theorem State.afterChoice_audioOut (s : State) : s.afterChoice.audioOut = s.audioOut := by unfold State.afterChoice; split <;> rfl
@[simp] theorem State.afterChoice_emaAcc (s : State) : s.afterChoice.emaAcc = s.emaAcc := by unfold State.afterChoice; split <;> rfl
@[simp] theorem State.afterChoice_emaInit (s : State) : s.afterChoice.emaInit = s.emaInit := by unfold State.afterChoice; split <;> rfl
@[simp] theorem State.afterChoice_gPhase (s : State) : s.afterChoice.gPhase = s.gPhase := by unfold State.afterChoice; split <;> rfl
@[simp] theorem State.afterChoice_gPeak (s : State) : s.afterChoice.gPeak = s.gPeak := by unfold State.afterChoice; split <;> rfl
@[simp] theorem State.afterChoice_stgInc1 (s : State) : s.afterChoice.stgInc1 = s.stgInc1 := by unfold State.afterChoice; split <;> rfl
@[simp] theorem State.afterChoice_stgInc2 (s : State) : s.afterChoice.stgInc2 = s.stgInc2 := by unfold State.afterChoice; split <;> rfl
@[simp] theorem State.afterChoice_tornWrite (s : State) : s.afterChoice.tornWrite = s.tornWrite := by unfold State.afterChoice; split <;> rfl
@[simp] theorem State.afterChoice_s1 (s : State) : s.afterChoice.s1 = s.s1 := by unfold State.afterChoice; split <;> rfl
@[simp] theorem State.afterChoice_s2 (s : State) : s.afterChoice.s2 = s.s2 := by unfold State.afterChoice; split <;> rfl
@[simp] theorem State.afterChoice_cfg (s : State) : s.afterChoice.cfg = s.cfg := by unfold State.afterChoice; split <;> rfl
@[simp] theorem State.afterChoice_stream (s : State) : s.afterChoice.stream = s.stream := by unfold State.afterChoice; split <;> rfl
@[simp] theorem State.afterChoice_events (s : State) : s.afterChoice.events = s.events := by unfold State.afterChoice; split <;> rfl

/-- Entering the tick context changes nothing (60_exceptions.md R185). -/
@[simp] theorem State.enterTick_eq (s : State) : s.enterTick = s := rfl

/-- Leaving it restores nothing (60_exceptions.md R186). -/
@[simp] theorem State.leaveTick_eq (s : State) : s.leaveTick = s := rfl

end Sys2Proof.Machine
end

