-- ==== Sys2Proof/Laws/Ops.lean ====
section
/-! SUPPORT. What each shared operation does, said once: table reads, byte writes, publications, the slices of a
phase, and what a well-formed configuration gives. -/

namespace Sys2Proof.Machine

/-- Inside its index range a table read is the table's element (20_memory.md R51). -/
theorem tableRead_inside {w n : Nat} (T : TableId) (t : Vector (BitVec w) n) {i : Nat} (h : i < n) :
    tableRead T t i = t[i] := by simp [tableRead, h]

/-- The sine table is never read outside its range: the index is a byte (20_memory.md R58 a). -/
theorem readSine_byte (c : Config) (b : U8) : readSine c b.toNat = c.sineTable[b.toNat] :=
  tableRead_inside _ _ b.isLt

theorem readNote_inside (c : Config) {i : Nat} (h : i < 73) : readNote c i = c.noteTable[i] := tableRead_inside _ _ h

theorem readDetune_inside (c : Config) {i : Nat} (h : i < 33) : readDetune c i = c.detuneCurve[i] :=
  tableRead_inside _ _ h

theorem highByte_toNat (v : U16) : (highByte v).toNat = v.toNat / 256 := by
  simp [highByte, Nat.shiftRight_eq_div_pow]; omega

theorem lowByte_toNat (v : U16) : (lowByte v).toNat = v.toNat % 256 := by simp [lowByte]

theorem rampBits_toNat (v : U16) : (rampBits v).toNat = v.toNat / 128 % 256 := by
  simp [rampBits, Nat.shiftRight_eq_div_pow]

theorem shapeCode_toNat (b : U8) : (shapeCode b).toNat = b.toNat % 4 := by simp [shapeCode]

theorem topBit_iff (v : U16) : topBit v = true ↔ 32768 ≤ v.toNat := by
  unfold topBit
  rw [BitVec.getLsbD, Nat.testBit_eq_decide_div_mod_eq]
  simp; omega

/-- A 16-bit value is put together of its two bytes (20_memory.md R59). -/
theorem toNat_bytes (h l : U8) : (h ++ l : BitVec 16).toNat = h.toNat * 256 + l.toNat := by
  rw [BitVec.toNat_append, Nat.shiftLeft_eq, Nat.mul_comm, ← Nat.two_pow_add_eq_or_of_lt l.isLt, Nat.mul_comm]

/-- Writing byte 1 of a value. -/
theorem replaceByte_high (old new : U16) :
    (replaceByte true old new).toNat = new.toNat / 256 * 256 + old.toNat % 256 := by
  simp [replaceByte, toNat_bytes, highByte_toNat, lowByte_toNat]

/-- Writing byte 0 of a value. -/
theorem replaceByte_low (old new : U16) :
    (replaceByte false old new).toNat = old.toNat / 256 * 256 + new.toNat % 256 := by
  simp [replaceByte, toNat_bytes, highByte_toNat, lowByte_toNat]

/-- Both byte writes, in either order, are the whole write (20_memory.md R63). -/
theorem replaceByte_both (high : Bool) (old new : U16) : replaceByte (!high) (replaceByte high old new) new = new := by
  apply BitVec.eq_of_toNat_eq
  have h := old.isLt
  have h' := new.isLt
  cases high <;> simp [replaceByte_high, replaceByte_low] <;> omega

/-- A publication with `ATOMIC16 = true` is one whole write. -/
theorem publish_atomic {s : State} (h : s.cfg.atomic16 = true) (v : Voice) : s.publish v = s.setInc v (s.stg v) := by
  simp [State.publish, h, State.publishWhole]

/-- A publication with `ATOMIC16 = false` is its first byte write. -/
theorem publish_bytewise {s : State} (h : s.cfg.atomic16 = false) (v : Voice) :
    s.publish v = s.publishFirstByte v := by
  simp [State.publish, h]

/-- With an answer at hand, the answer is it. -/
theorem choice_cons {s : State} {b : Bool} {rest : List Bool} (h : s.choices = b :: rest) :
    s.choice = b ∧ s.afterChoice = { s with choices := rest } := by
  simp [State.choice, State.afterChoice, h]

/-- What 00_scope.md R8 gives: the curve rises. -/
theorem curve_rises {c : Config} (h : c.wf = true) {k : Nat} (hk : k < 32) :
    c.detuneCurve[k].toNat ≤ c.detuneCurve[k + 1].toNat := by
  simp only [Config.wf, Bool.and_eq_true, Config.curveRises, List.all_eq_true] at h
  simpa using h.1.1.1 ⟨k, hk⟩ (List.mem_finRange _)

/-- What 00_scope.md R8 gives: the curve starts at 0. -/
theorem curve_zero {c : Config} (h : c.wf = true) : c.detuneCurve[0] = 0 := by
  simp only [Config.wf, Bool.and_eq_true, Config.curveStartsAtZero, beq_iff_eq] at h
  exact h.1.1.2

/-- What 00_scope.md R8 gives: the rescale constants are positive. -/
theorem scale_positive {c : Config} (h : c.wf = true) : 1 ≤ c.scaleNum ∧ 1 ≤ c.scaleDen := by
  simp only [Config.wf, Bool.and_eq_true, Config.scalePositive, decide_eq_true_eq] at h
  exact h.1.2

/-- What 00_scope.md R8 gives: the order of the thresholds. -/
theorem bands_ordered {c : Config} (h : c.wf = true) :
    c.vBoth < c.vRight ∧ c.vRight < c.vLeft ∧ c.vLeft ≤ c.vRelease ∧ c.vRelease ≤ 1023 ∧ c.vPress ≤ c.vRelease := by
  simp only [Config.wf, Bool.and_eq_true, Config.bandsOrdered, decide_eq_true_eq] at h
  exact h.2

end Sys2Proof.Machine
end

