-- ==== Sys2Proof/Laws/Exec.lean ====
section
/-! SUPPORT. What an operation does as a function on states, what a step can do, and how runs of operations compose. -/

namespace Sys2Proof.Machine

/-- The state an operation leads to: every operation is total (60_exceptions.md R180). -/
def after : Instr → State → State
  | .nop, s => s
  | .tick, s => tick s
  | .pollCtrl p d, s => pollCtrl p d s
  | .ctrlEval p d, s => ctrlEval p d s
  | .wrInc1, s => s.publish .one
  | .wrInc2, s => s.publish .two
  | .pollGest v, s => pollGest v s
  | .rdTicks, s => s.emit (.tickCount s.ticks)
  | .reset, s => s.resetRegisters
  | .waveSaw, s => sampleVoices waveSaw s
  | .waveSqr, s => sampleVoices waveSqr s
  | .waveTri, s => sampleVoices waveTri s
  | .waveSin, s => sampleVoices (waveSin s.cfg) s

theorem exec_eq_after (i : Instr) (s : State) : exec i s = .next (after i s) := by cases i <;> rfl

theorem exec_next_iff (i : Instr) (s t : State) : exec i s = .next t ↔ t = after i s := by
  rw [exec_eq_after]
  constructor
  · intro h; injection h with h; exact h.symm
  · rintro rfl; rfl

theorem runInstrs_nil (s : State) : runInstrs [] s = .next s := rfl

theorem runInstrs_cons (i : Instr) (is : List Instr) (s : State) :
    runInstrs (i :: is) s = runInstrs is (after i s) := by
  simp only [runInstrs, exec_eq_after]

theorem runInstrs_eq_foldl (is : List Instr) (s : State) :
    runInstrs is s = .next (is.foldl (fun t i => after i t) s) := by
  induction is generalizing s with
  | nil => rfl
  | cons i is ih => rw [runInstrs_cons, ih]; rfl

theorem runInstrs_append (is js : List Instr) (s : State) :
    runInstrs (is ++ js) s = runInstrs js (is.foldl (fun t i => after i t) s) := by
  simp [runInstrs_eq_foldl]

/-- A run of one more step: the step and then the run. -/
theorem run_succ {s t : State} (h : step s = .next t) (k : Nat) :
    Host.Core.run core (k + 1) s = Host.Core.run core k t := by
  have h' : core.step s = .next t := h
  simp only [Host.Core.run, h']

/-- A run of one more step that answers a next state starts with a step that does. -/
theorem run_succ_next {k : Nat} {s u : State} (h : Host.Core.run core (k + 1) s = .next u) :
    ∃ t, step s = .next t ∧ Host.Core.run core k t = .next u := by
  match hs : step s with
  | .next t => exact ⟨t, rfl, by rw [← run_succ hs]; exact h⟩
  | .refused r =>
    have h' : core.step s = .refused r := hs
    simp only [Host.Core.run, h'] at h
    cases h

/-- Everything a step that answers a next state can do. -/
theorem step_next_cases {s t : State} (h : step s = .next t) :
    (nextMove s = .idle ∧ t = s) ∨
    (∃ b u, nextMove s = .finishWrite b u ∧ t = u.publishSecondByte b) ∨
    (∃ w u i, nextMove s = .issue w u ∧ decode w = .ok i ∧ t = after i u) := by
  unfold step at h
  split at h
  · cases h
  · next hm => injection h with h; exact .inl ⟨hm, h.symm⟩
  · next b u hm => injection h with h; exact .inr (.inl ⟨b, u, hm, h.symm⟩)
  · next w u hm =>
    split at h
    · next i hd => exact .inr (.inr ⟨w, u, i, hm, hd, (exec_next_iff i u t).1 h⟩)
    · cases h

/-- What the next move can be, with the state it starts from: that state differs only in the stream, the answers and
the free-value counter. -/
theorem nextMove_finishWrite {s u : State} {b : ByteWrite} (h : nextMove s = .finishWrite b u) :
    s.cfg.wf = true ∧ s.tornWrite = some b ∧ (u = s ∨ u = s.afterChoice) := by
  unfold nextMove at h
  split at h
  · next hw =>
    refine ⟨hw, ?_⟩
    split at h
    · next b' hb =>
      unfold moveInsideWrite at h
      split at h
      · cases h; exact ⟨hb, .inl rfl⟩
      · split at h
        · split at h
          · cases h
          · cases h; exact ⟨hb, .inr rfl⟩
        · cases h; exact ⟨hb, .inl rfl⟩
    · unfold moveBetweenSteps at h; split at h <;> cases h
  · cases h

theorem nextMove_issue {s u : State} {w : FetchWord} (h : nextMove s = .issue w u) :
    s.cfg.wf = true ∧ ∃ rest, s.stream = w :: rest ∧
      ((s.tornWrite = none ∧ u = { s with stream := rest }) ∨
       (s.tornWrite.isSome = true ∧ mayPreempt w = true ∧ u = { s.afterChoice with stream := rest })) := by
  unfold nextMove at h
  split at h
  · next hw =>
    refine ⟨hw, ?_⟩
    split at h
    · next b hb =>
      unfold moveInsideWrite at h
      split at h
      · cases h
      · next w' rest hs =>
        split at h
        · next hp =>
          split at h
          · cases h; exact ⟨rest, hs, .inr ⟨by simp [hb], hp, rfl⟩⟩
          · cases h
        · cases h
    · next hb =>
      unfold moveBetweenSteps at h
      split at h
      · cases h
      · next w' rest hs => cases h; exact ⟨rest, hs, .inl ⟨hb, rfl⟩⟩
  · cases h

/-- A word may stand between two byte writes exactly when it stands for an operation of another agent. -/
theorem mayPreempt_eq_false_iff (w : FetchWord) :
    mayPreempt w = false ↔ ∀ i, decode w = .ok i → i.agent = .foreground := by
  unfold mayPreempt
  cases decode w with
  | error e => simp
  | ok i => simp

/-- Inside a publication with no operation of another agent next, the step is the second byte write. -/
theorem step_second_byte {s : State} {b : ByteWrite} (hc : s.cfg.wf = true) (hb : s.tornWrite = some b)
    (h : ∀ w rest, s.stream = w :: rest → mayPreempt w = false) : step s = .next (s.publishSecondByte b) := by
  have hm : moveInsideWrite b s = .finishWrite b s := by
    unfold moveInsideWrite
    split
    · rfl
    · next w rest hs => simp [h w rest hs]
  simp [step, nextMove, hc, hb, hm]

/-- A run of one more step: the run and then the step. -/
theorem run_snoc {k : Nat} {s t u : State} (h : Host.Core.run core k s = .next t) (ht : step t = .next u) :
    Host.Core.run core (k + 1) s = .next u := by
  induction k generalizing s with
  | zero => cases h; rw [run_succ ht]; rfl
  | succ k ih =>
    obtain ⟨r, hr, h⟩ := run_succ_next h
    rw [run_succ hr]
    exact ih h

end Sys2Proof.Machine
end

