-- ==== Sys2Proof/Laws/Frames.lean ====
section
/-! SUPPORT. What the operations leave unchanged and within what bounds, said once, and how the views of the
observation distribute over it. -/

namespace Sys2Proof.Machine

/-! ## Views of the observation -/

theorem audioValues_append (a b : List Event) : audioValues (a ++ b) = audioValues a ++ audioValues b := by
  induction a with
  | nil => rfl
  | cons e a ih => cases e <;> simp [audioValues, ih]

theorem feedbackShapes_append (a b : List Event) :
    feedbackShapes (a ++ b) = feedbackShapes a ++ feedbackShapes b := by
  induction a with
  | nil => rfl
  | cons e a ih => cases e <;> simp [feedbackShapes, ih]

theorem gestureResults_append (a b : List Event) :
    gestureResults (a ++ b) = gestureResults a ++ gestureResults b := by
  induction a with
  | nil => rfl
  | cons e a ih => cases e <;> simp [gestureResults, ih]

theorem tickCounts_append (a b : List Event) : tickCounts (a ++ b) = tickCounts a ++ tickCounts b := by
  induction a with
  | nil => rfl
  | cons e a ih => cases e <;> simp [tickCounts, ih]

/-! ## Answers and publications -/

/-- Taking an answer changes the answers or the free-value counter, and nothing else. -/
theorem afterChoice_eq (s : State) :
    s.afterChoice = { s with choices := s.afterChoice.choices, freeCtr := s.afterChoice.freeCtr } := by
  unfold State.afterChoice
  split <;> rfl

/-- A publication writes the increment of its voice, and may take an answer and leave a byte to be written. -/
theorem publish_eq (s : State) (v : Voice) :
    ∃ (x : U16) (answers : List Bool) (ctr : Nat) (left : Option ByteWrite),
      s.publish v = { s.setInc v x with tornWrite := left, choices := answers, freeCtr := ctr } := by
  unfold State.publish
  split
  · exact ⟨s.stg v, s.choices, s.freeCtr, s.tornWrite, by cases v <;> rfl⟩
  · refine ⟨replaceByte s.choice (s.inc v) (s.stg v), s.afterChoice.choices, s.afterChoice.freeCtr,
      some ⟨v, !s.choice⟩, ?_⟩
    unfold State.publishFirstByte State.afterChoice
    split <;> cases v <;> rfl

/-- With an answer at hand, the first byte write is of the byte the answer names; the other is left to be written. -/
theorem publishFirstByte_answered {s : State} {high : Bool} {rest : List Bool} (h : s.choices = high :: rest)
    (v : Voice) :
    s.publishFirstByte v =
      { s.setInc v (replaceByte high (s.inc v) (s.stg v)) with tornWrite := some ⟨v, !high⟩, choices := rest } := by
  obtain ⟨hb, hs⟩ := choice_cons h
  unfold State.publishFirstByte
  rw [hb, hs]
  cases v <;> rfl

/-! ## Control mapper -/

/-- A rescaled reading is within 0..1023 (R120). -/
theorem rescale_le (c : Config) (raw : U10) : rescale c raw ≤ 1023 := Nat.min_le_left _ _

/-- The accumulator stays within its bound (R132). -/
theorem smoothAcc_le (s : State) {v : Nat} (hv : v ≤ 1023) (h : s.emaAcc.toNat ≤ 16383) :
    (smoothAcc s v).toNat ≤ 16383 := by
  unfold smoothAcc
  split <;> simp <;> omega

/-- CTRL.EVAL commutes with TICK: neither reads what the other writes (R71). -/
theorem ctrlEval_tick (p d : U10) (s : State) : ctrlEval p d (tick s) = tick (ctrlEval p d s) := rfl

/-! ## Gesture detector -/

/-- GEST.STEP writes G_PHASE and G_PEAK, and nothing else (R141 to R143). -/
theorem gestStep_eq (v : U10) (s : State) :
    gestStep v s = { s with gPhase := (gestStep v s).gPhase, gPeak := (gestStep v s).gPeak } := by
  unfold gestStep gestNotPressed gestHeld gestReleased
  repeat' split
  all_goals rfl

/-- POLL.GEST writes G_PHASE, G_PEAK, SHAPE and the observation, and nothing else (R144). -/
theorem pollGest_eq (v : U10) (s : State) :
    pollGest v s = { s with
      gPhase := (pollGest v s).gPhase, gPeak := (pollGest v s).gPeak
      shape := (pollGest v s).shape, events := (pollGest v s).events } := by
  unfold pollGest confirm
  rw [gestStep_eq]
  split <;> rfl

/-! ## Every operation -/

/-- No operation changes a table or a parameter (R61). -/
theorem after_cfg (i : Instr) (s : State) : (after i s).cfg = s.cfg := by
  cases i with
  | wrInc1 => obtain ⟨x, a, c, l, e⟩ := publish_eq s .one; simp only [after, e, State.setInc_cfg]
  | wrInc2 => obtain ⟨x, a, c, l, e⟩ := publish_eq s .two; simp only [after, e, State.setInc_cfg]
  | pollGest v => rw [after, pollGest_eq]
  | _ => rfl

/-- No operation takes a word of the stream; the step that issues it does. -/
theorem after_stream (i : Instr) (s : State) : (after i s).stream = s.stream := by
  cases i with
  | wrInc1 => obtain ⟨x, a, c, l, e⟩ := publish_eq s .one; simp only [after, e, State.setInc_stream]
  | wrInc2 => obtain ⟨x, a, c, l, e⟩ := publish_eq s .two; simp only [after, e, State.setInc_stream]
  | pollGest v => rw [after, pollGest_eq]
  | _ => rfl

end Sys2Proof.Machine
end

