-- ==== Sys2Proof/Laws/PerInstr.lean ====
section
/-! SUPPORT. What holds of every instruction as an encoding, instruction by instruction (30_encoding.md R80, R83,
R84). -/

namespace Sys2Proof.Laws.EncodedRow

/-- The word of an operation matches the operation's own row of the table of R84; a micro-operation's word is a
selector byte whose bits 7:2 are 0 (R80, R87). -/
def Statement (i : Instr) : Prop :=
  match i.cmdRow with
  | some (mask, pattern) => ∃ w, encode i = .cmd w ∧ w &&& mask = pattern
  | none => ∃ b, encode i = .selector b ∧ b.toNat < 4

/-- The low bits that a mask leaves open do not show in the masked word. -/
theorem masked_field (mask pattern : BitVec 24) (op : BitVec 4) (a b : U10) (h : cmdWord op a b &&& mask = pattern) :
    ∃ w, FetchWord.cmd (cmdWord op a b) = .cmd w ∧ w &&& mask = pattern := ⟨_, rfl, h⟩

/-- A mask of `op` alone keeps `op`. -/
theorem mask_op (op : BitVec 4) (a b : U10) : cmdWord op a b &&& 0xF00000 = cmdWord op 0 0 := by
  apply BitVec.eq_of_getLsbD_eq
  intro k hk
  rw [BitVec.getLsbD_and]
  simp only [cmdWord, BitVec.getLsbD_append]
  have : ∀ k < 24, (0xF00000 : BitVec 24).getLsbD k = decide (20 ≤ k) := by decide
  rw [this k hk]
  by_cases h : k < 10
  · simp [h]; omega
  · by_cases h' : k - 10 < 10
    · simp [h, h']; omega
    · simp [h, h']; omega

/-- A mask of `op` and `a` keeps both. -/
theorem mask_op_a (op : BitVec 4) (a b : U10) : cmdWord op a b &&& 0xFFFC00 = cmdWord op a 0 := by
  apply BitVec.eq_of_getLsbD_eq
  intro k hk
  rw [BitVec.getLsbD_and]
  simp only [cmdWord, BitVec.getLsbD_append]
  have : ∀ k < 24, (0xFFFC00 : BitVec 24).getLsbD k = decide (10 ≤ k) := by decide
  rw [this k hk]
  by_cases h : k < 10
  · simp [h]
  · simp [h]; omega

theorem nop : Statement .nop := masked_field _ _ _ _ _ (by decide)
theorem tick : Statement .tick := masked_field _ _ _ _ _ (by decide)
theorem pollCtrl (p d : U10) : Statement (.pollCtrl p d) := masked_field _ _ _ _ _ (mask_op _ p d)
theorem ctrlEval (p d : U10) : Statement (.ctrlEval p d) := masked_field _ _ _ _ _ (mask_op _ p d)
theorem wrInc1 : Statement .wrInc1 := masked_field _ _ _ _ _ (by decide)
theorem wrInc2 : Statement .wrInc2 := masked_field _ _ _ _ _ (by decide)
theorem pollGest (v : U10) : Statement (.pollGest v) := masked_field _ _ _ _ _ (mask_op_a _ 0 v)
theorem rdTicks : Statement .rdTicks := masked_field _ _ _ _ _ (by decide)
theorem reset : Statement .reset := masked_field _ _ _ _ _ (by decide)
theorem waveSaw : Statement .waveSaw := ⟨0, rfl, by decide⟩
theorem waveSqr : Statement .waveSqr := ⟨1, rfl, by decide⟩
theorem waveTri : Statement .waveTri := ⟨2, rfl, by decide⟩
theorem waveSin : Statement .waveSin := ⟨3, rfl, by decide⟩

end Sys2Proof.Laws.EncodedRow
end

