-- ==== Sys2Proof/Tests/Slice0.lean ====
section
/-! SUPPORT. The model's own tests. Expected values come from spec/95_test_vectors.md (named by section) or from the
rule named; each is one step or one decoding. `test_witness_…` shows a state and operands that meet the hypotheses of
the obligation of that name. -/

namespace Sys2Proof.Tests

open Sys2Proof.Machine

/-! ## Helpers -/

/-- The reset state with byte-wise publications. -/
def bytewise : State := State.resetWith { configT0 with atomic16 := false }

/-- The reset state of the configuration that classifies the entry reading. -/
def onEntry : State := State.resetWith { configT0 with classifyOnEntry := true }

/-- SMOOTH has run, and byte 1 of INC1 is still to be written. -/
def halfPublished : State :=
  { bytewise with
    emaInit := true, emaAcc := 8192, stgInc1 := 1715, stgInc2 := 1715, tornWrite := some ⟨.one, true⟩ }

/-- A view of the state an outcome holds. -/
def viewed {α : Type} (f : State → α) : Host.Outcome State Fault Refusal → Option α
  | .next t => some (f t)
  | .fault _ => none
  | .refused _ => none

/-- Why an outcome is refused. -/
def refusal : Host.Outcome State Fault Refusal → Option Refusal
  | .next _ => none
  | .fault _ => none
  | .refused r => some r

theorem t0_wf : configT0.wf = true := by decide
theorem t1_wf : configT1.wf = true := by decide
theorem bytewise_wf : bytewise.cfg.wf = true := by decide

/-! ## WellFormed: what the checks refuse (00_scope.md R8, 30_encoding.md R94) -/

theorem test_wf_accepts_t0 : configT0.wf = true := t0_wf
theorem test_wf_accepts_t1 : configT1.wf = true := t1_wf
/-- R8 item 3: knot 5 above knot 6. -/
theorem test_wf_refuses_falling_curve :
    ({ configT0 with detuneCurve := defaultDetuneCurve.set 5 19 } : Config).curveRises = false := by decide
/-- R8 item 4. -/
theorem test_wf_refuses_curve_not_from_zero :
    ({ configT0 with detuneCurve := Vector.replicate 33 1 } : Config).curveStartsAtZero = false := by decide
/-- R8 item 5. -/
theorem test_wf_refuses_zero_divisor : ({ configT0 with scaleDen := 0 } : Config).scalePositive = false := by decide
theorem test_wf_refuses_zero_factor : ({ configT0 with scaleNum := 0 } : Config).scalePositive = false := by decide
/-- R8 item 6, each of its comparisons at its boundary. -/
theorem test_wf_refuses_both_at_right : ({ configT0 with vBoth := 300 } : Config).bandsOrdered = false := by decide
theorem test_wf_refuses_right_at_left : ({ configT0 with vRight := 380 } : Config).bandsOrdered = false := by decide
theorem test_wf_refuses_left_above_release : ({ configT0 with vLeft := 451 } : Config).bandsOrdered = false := by decide
theorem test_wf_refuses_release_above_1023 : ({ configT0 with vRelease := 1024 } : Config).bandsOrdered = false := by
  decide
theorem test_wf_refuses_press_above_release : ({ configT0 with vPress := 451 } : Config).bandsOrdered = false := by
  decide
theorem test_wf_accepts_left_at_release :
    ({ configT0 with vLeft := 450, vPress := 450, vBoth := 0 } : Config).bandsOrdered = true := by decide
/-- R94: 1024 is no reading, in any operand place. -/
theorem test_wf_refuses_lines :
    (AsmLine.pollCtrl 1024 0).wf = false ∧ (AsmLine.ctrlEval 0 1024).wf = false ∧ (AsmLine.pollGest 1024).wf = false ∧
    (AsmLine.poll 0 0 1024).wf = false ∧ (AsmLine.poll 1023 1023 1023).wf = true := by decide
/-- A configuration that is refused, and the machine under it. -/
theorem test_step_refuses_a_bad_configuration :
    refusal (step (State.resetWith { configT0 with scaleDen := 0 })) = some .badConfig := by decide

/-! ## Decoding: words written from 30_encoding.md R84 and 95_test_vectors.md section 6 -/

theorem test_decode_nop : decode (.cmd 0b0000_0000000000_0000000000) = .ok .nop := by decide
theorem test_decode_tick : decode (.cmd 0b0001_0000000000_0000000000) = .ok .tick := by decide
theorem test_decode_pollCtrl : decode (.cmd 0b0010_1000000000_0000000000) = .ok (.pollCtrl 512 0) := by decide
theorem test_decode_pollCtrl_ends :
    decode (.cmd 0x200000) = .ok (.pollCtrl 0 0) ∧ decode (.cmd 0x2FFFFF) = .ok (.pollCtrl 1023 1023) := by decide
theorem test_decode_ctrlEval : decode (.cmd 0b0011_1010000000_1111101000) = .ok (.ctrlEval 640 1000) := by decide
theorem test_decode_ctrlEval_high : decode (.cmd 0x3FFC00) = .ok (.ctrlEval 1023 0) := by decide
theorem test_decode_wrInc1 : decode (.cmd 0b0100_0000000000_0000000000) = .ok .wrInc1 := by decide
theorem test_decode_wrInc2 : decode (.cmd 0b0101_0000000000_0000000000) = .ok .wrInc2 := by decide
theorem test_decode_pollGest : decode (.cmd 0b0110_0000000000_0001100100) = .ok (.pollGest 100) := by decide
theorem test_decode_pollGest_high : decode (.cmd 0x6003FF) = .ok (.pollGest 1023) := by decide
theorem test_decode_rdTicks : decode (.cmd 0b0111_0000000000_0000000000) = .ok .rdTicks := by decide
theorem test_decode_reset : decode (.cmd 0b1111_0000000000_0000000000) = .ok .reset := by decide
theorem test_decode_waveSaw : decode (.selector 0b00) = .ok .waveSaw := by decide
theorem test_decode_waveSqr : decode (.selector 0b01) = .ok .waveSqr := by decide
theorem test_decode_waveTri : decode (.selector 0b10) = .ok .waveTri := by decide
theorem test_decode_waveSin : decode (.selector 0b11) = .ok .waveSin := by decide
/-- The words that decode to nothing (section 6), and a selector byte that SHAPE never holds (R80). -/
theorem test_decode_reserved :
    decode (.cmd 0x800000) = .error .op ∧ decode (.cmd 0xE00000) = .error .op ∧
    decode (.cmd 0x100001) = .error .operand ∧ decode (.cmd 0x600400) = .error .operand ∧
    decode (.cmd 0x700001) = .error .operand ∧ decode (.cmd 0xF00001) = .error .operand ∧
    decode (.cmd 0x000400) = .error .operand ∧ decode (.selector 4) = .error .selector := by decide
/-- The other way, the words of section 6. -/
theorem test_encode_words :
    encode (.pollCtrl 512 512) = .cmd 0x280200 ∧ encode (.ctrlEval 640 1000) = .cmd 0x3A03E8 ∧
    encode (.pollGest 100) = .cmd 0x600064 ∧ encode .reset = .cmd 0xF00000 := by decide
/-- The table's numbering of bits. -/
theorem test_decode_table_word :
    decodeTableWord 24 0x280200 = some (.pollCtrl 512 512) ∧ decodeTableWord 8 3 = some .waveSin ∧
    decodeTableWord 2 2 = some .waveTri ∧ decodeTableWord 24 0x800000 = none := by decide

/-! ## The assembler (30_encoding.md R94, R95) -/

theorem test_assemble_line :
    assembleLine "ctrl.eval 640, 0x3E8 ; pitch, detune".toList = .ok [.ctrlEval 640 1000] := by decide
theorem test_assemble_poll : assembleLine "poll 1023, 512, 100".toList = .ok [.pollCtrl 1023 512, .pollGest 100] := by
  decide
theorem test_assemble_wait : assembleLine "wait.ms 1".toList = .ok (List.replicate 10 .tick) := by decide
theorem test_assemble_operand_error : assembleLine "poll.gest 1024".toList = .error .badOperand := by decide
theorem test_assemble_no_line : assembleLine "tick 1, 2".toList = .error .badLine := by decide
theorem test_assemble_program :
    assemble ["reset".toList, "; nothing".toList, "tick".toList] = .ok [.reset, .tick] := by decide

/-! ## One step of each operation -/

theorem test_nop_keeps_state :
    viewed (fun t => (t.ticks, t.phase1, t.events)) (exec .nop { State.reset with ticks := 7, phase1 := 9 })
      = some (7, 9, []) := by decide

/-- Section 5.1, the run over the wrap, second tick. -/
theorem test_tick_wraps_the_phase :
    viewed (fun t => ((t.phase1, t.phase2, t.ticks), (t.s1, t.s2, t.events)))
      (exec .tick { State.reset with
        phase1 := 0xF800, inc1 := 0x0800, phase2 := 0x8000, inc2 := 0x0100, ticks := 65535 })
      = some ((0x0000, 0x8100, 0), (0, 129, [.audio 64])) := by decide
/-- Section 5.1, tick 6 with shape 3 (sine). -/
theorem test_tick_sine :
    viewed (fun t => (t.s1, t.s2, t.audioOut))
      (exec .tick { State.reset with
        phase1 := 0x5000, inc1 := 0x1000, phase2 := 0x7800, inc2 := 0x1800, shape := 3 })
      = some (218, 79, 148) := by decide

/-- Section 3.7, the row of 640, 1000. -/
theorem test_pollCtrl_publishes_both :
    viewed (fun t => (t.inc1, t.inc2, t.stgInc1, t.emaAcc)) (exec (.pollCtrl 640 1000) State.reset)
      = some (2884, 4258, 2884, 10240) := by decide
/-- Section 7, P6 step 4: from EMA_ACC = 8192. -/
theorem test_pollCtrl_smooths :
    viewed (fun t => (t.inc1, t.inc2, t.emaAcc))
      (exec (.pollCtrl 1023 512) { State.reset with emaAcc := 8192, emaInit := true })
      = some (1925, 2165, 8703) := by decide

/-- Section 3.7, the last row: the largest increments. -/
theorem test_ctrlEval_first_call :
    viewed (fun t => (t.stgInc1, t.stgInc2, t.emaAcc, t.emaInit)) (exec (.ctrlEval 1023 1023) State.reset)
      = some (13717, 20562, 16368, true) := by decide
/-- Section 7, P3 step 5: the increments are not changed. -/
theorem test_ctrlEval_second_call :
    viewed (fun t => (t.stgInc1, t.stgInc2, t.emaAcc, t.inc1, t.inc2))
      (exec (.ctrlEval 1023 0) { State.reset with emaAcc := 8192, emaInit := true, inc1 := 1715, inc2 := 2570 })
      = some (1925, 1925, 8703, 1715, 2570) := by decide

/-- Section 5.3: byte 0 first leaves 0x0644; the worse case, byte 1 first, 0x01FF. -/
theorem test_wrInc1_torn :
    viewed (fun t => (t.inc1, t.tornWrite))
      (exec .wrInc1 { bytewise with inc1 := 1715, stgInc1 := 2884, choices := [false] })
      = some (1604, some ⟨.one, true⟩) ∧
    viewed (fun t => t.inc1) (exec .wrInc1 { bytewise with inc1 := 0x00FF, stgInc1 := 0x0100, choices := [true] })
      = some 0x01FF := by decide
/-- Section 7, P3 step 7. -/
theorem test_wrInc1_whole :
    viewed (fun t => (t.inc1, t.inc2))
      (exec .wrInc1 { State.reset with inc1 := 1715, inc2 := 2570, stgInc1 := 1925, stgInc2 := 1925 })
      = some (1925, 2570) := by decide

/-- Section 7, P3 step 9. -/
theorem test_wrInc2_whole :
    viewed (fun t => (t.inc1, t.inc2))
      (exec .wrInc2 { State.reset with inc1 := 1000, inc2 := 2570, stgInc1 := 1, stgInc2 := 1925 })
      = some (1000, 1925) := by decide
/-- The numbers of section 5.3 on voice 2, byte 1 first. -/
theorem test_wrInc2_torn :
    viewed (fun t => (t.inc1, t.inc2, t.tornWrite))
      (exec .wrInc2 { bytewise with inc2 := 1715, stgInc2 := 2884, choices := [true] })
      = some (0, 2995, some ⟨.two, false⟩) := by decide

/-- Section 4.2, trace f: 250 and then 224, both in the band right. -/
theorem test_pollGest_holds :
    viewed (fun t => (t.gPhase, t.gPeak, t.events)) (exec (.pollGest 224) { State.reset with gPhase := .pressed })
      = some (.pressed, .right, [.gesture .none]) := by decide
/-- Section 7, P2 step 14: the release that takes SHAPE from 3 to 0. -/
theorem test_pollGest_releases :
    viewed (fun t => (t.gPhase, t.gPeak, t.shape, t.events))
      (exec (.pollGest 451) { State.reset with gPhase := .pressed, gPeak := .both, shape := 3 })
      = some (.notPressed, .both, 0, [.feedback 0, .gesture .both]) := by decide

/-- Section 7, P4 step 3. -/
theorem test_rdTicks :
    viewed (fun t => (t.ticks, t.events)) (exec .rdTicks { State.reset with ticks := 65530 })
      = some (65530, [.tickCount 65530]) := by decide

/-- R200; a publication in progress is discarded (60_exceptions.md R184). -/
theorem test_reset :
    viewed (fun t => ((t.ticks, t.shape, t.emaInit), (t.gPeak, t.tornWrite, t.events)))
      (exec .reset { bytewise with ticks := 5, shape := 2, emaInit := true, gPeak := .both, tornWrite := some ⟨.one, true⟩ })
      = some ((0, 0, false), (.none, none, [])) := by decide

/-- Section 2.2, the phases 0xFF7F and 0x7F80. -/
theorem test_waveSaw :
    viewed (fun t => (t.s1, t.s2, t.audioOut)) (exec .waveSaw { State.reset with phase1 := 0xFF7F, phase2 := 0x7F80 })
      = some (255, 127, 0) := by decide
/-- Section 2.2, the threshold of the square wave. -/
theorem test_waveSqr :
    viewed (fun t => (t.s1, t.s2)) (exec .waveSqr { State.reset with phase1 := 0x7FFF, phase2 := 0x8000 })
      = some (0, 255) := by decide
/-- Section 2.2, both halves of the triangle. -/
theorem test_waveTri :
    viewed (fun t => (t.s1, t.s2)) (exec .waveTri { State.reset with phase1 := 0x3FFF, phase2 := 0x8080 })
      = some (127, 254) := by decide
/-- Section 2.2, and the phase 0x0100. -/
theorem test_waveSin :
    viewed (fun t => (t.s1, t.s2)) (exec .waveSin { State.reset with phase1 := 0x0100, phase2 := 0xFFFF })
      = some (131, 124) := by decide

/-- Section 4.2, CLASSIFY_ON_ENTRY, trace g: the entry reading 379 counts. -/
theorem test_entry_poll_classifies :
    viewed (fun t => (t.gPhase, t.gPeak)) (exec (.pollGest 379) onEntry) = some (.pressed, .left) := by decide
/-- Section 3.1, T1: 818 gives 1022, 820 is clamped. -/
theorem test_rescale_t1 : rescale configT1 818 = 1022 ∧ rescale configT1 820 = 1023 ∧ rescale configT1 3 = 3 := by
  decide
/-- Section 3.3 and 3.5. -/
theorem test_quant_and_interp :
    quant 14 = 0 ∧ quant 15 = 1 ∧ quant 512 = 36 ∧ quant 1022 = 71 ∧ quant 1023 = 72 ∧
    detInterp configT0 511 = 127 ∧ detInterp configT0 991 = 479 ∧ detInterp configT0 992 = 480 ∧
    detInterp configT0 1023 = 511 := by decide

/-! ## One step of the machine -/

theorem test_step_runs_a_placed_word :
    viewed (fun t => (t.ticks, t.events)) (step (State.reset.withFetchWord 24 0x100000)) = some (1, [.audio 0]) := by
  decide
theorem test_step_runs_a_placed_selector :
    viewed (fun t => (t.s1, t.s2)) (step (State.reset.withFetchWord 8 3)) = some (128, 128) := by decide
theorem test_step_refuses_a_reserved_word :
    refusal (step (State.reset.withFetchWord 24 0xE00000)) = some (.reservedWord (.cmd 0xE00000)) := by decide
/-- R63: between the two byte writes a TICK runs on the torn increment (section 5.3, 1604). -/
theorem test_step_tick_inside_a_publication :
    viewed (fun t => (t.phase1, t.tornWrite, t.stream))
      (step { bytewise with
        inc1 := 1604, stgInc1 := 2884, tornWrite := some ⟨.one, true⟩, choices := [true], stream := [.cmd 0x100000] })
      = some (1604, some ⟨.one, true⟩, []) := by decide
/-- R63: an operation of the foreground waits for the second byte write. -/
theorem test_step_second_byte_first :
    viewed (fun t => (t.inc1, t.tornWrite, t.stream))
      (step { bytewise with
        inc1 := 1604, stgInc1 := 2884, tornWrite := some ⟨.one, true⟩, stream := [.cmd 0x500000] })
      = some (2884, none, [.cmd 0x500000]) := by decide

/-! ## Witnesses -/

theorem test_witness_OnlyTheEncodedWordDecodesToAnOperation :
    ∃ (w : FetchWord) (i : Instr), decode w = .ok i := ⟨.cmd 0x2FFFFF, .pollCtrl 1023 1023, by decide⟩

/-- The ends of the reserved codes, and an operation of each agent. -/
theorem test_witness_WordsSelectTheirRowByMaskAndMatch :
    (8 ≤ (0x800000 : BitVec 24).toNat / 1048576 ∧ (0xEFFFFF : BitVec 24).toNat / 1048576 ≤ 14) ∧
    decodeCmd 0x100000 = .ok .tick ∧ decodeCmd 0xF00000 = .ok .reset ∧
    decodeCmd 0x2FFFFF = .ok (.pollCtrl 1023 1023) := by decide

/-- Each way a word is reserved, at the ends of its range. -/
theorem test_witness_ReservedWordsAreExactlyTheRefusedOnes :
    ∀ w ∈ [(0x800000 : BitVec 24), 0xEFFFFF, 0x000001, 0x100400, 0xFFFFFF, 0x600400],
      ∃ (s : State) (e : Reserved), s.cfg.wf = true ∧ s.tornWrite = none ∧ s.stream = .cmd w :: [] ∧
        decodeCmd w = .error e := by
  intro w hw
  have h : ∃ e, decodeCmd w = .error e := by
    simp only [List.mem_cons, List.not_mem_nil, or_false] at hw
    rcases hw with rfl | rfl | rfl | rfl | rfl | rfl
    · exact ⟨.op, by decide⟩
    · exact ⟨.op, by decide⟩
    · exact ⟨.operand, by decide⟩
    · exact ⟨.operand, by decide⟩
    · exact ⟨.operand, by decide⟩
    · exact ⟨.operand, by decide⟩
  obtain ⟨e, he⟩ := h
  exact ⟨{ State.reset with stream := [.cmd w] }, e, t0_wf, rfl, rfl, he⟩

/-- The square wave's two edges, and the last phase of the rising half of the triangle. -/
theorem test_witness_WaveformSymmetryDutyAndAdvance :
    (0x7FFF : U16).toNat < 32768 ∧ (waveSqr 0x7FFF = 0 ∧ waveSqr (0x7FFF + 1) = 255) ∧
    (waveSqr 0xFFFF = 255 ∧ waveSqr (0xFFFF + 1) = 0) := by decide

theorem test_witness_TickRunsTheMicroOperationShapeSelects :
    State.reset.shape.toNat < 4 ∧ ({ State.reset with shape := 3 } : State).shape.toNat < 4 := by decide

theorem test_witness_SteppedTicksPlayThePhaseAccumulatorWaveform :
    ∃ (s : State) (rest : List FetchWord), s.cfg.wf = true ∧ s.tornWrite = none ∧
      s.stream = List.replicate 2 (.cmd 0x100000) ++ rest :=
  ⟨{ State.reset with inc1 := 1715, stream := [.cmd 0x100000, .cmd 0x100000, .cmd 0x700000] }, [.cmd 0x700000],
    t0_wf, rfl, rfl⟩

theorem test_witness_SilenceBeforeTheFirstPublication :
    State.reset.phase1 = 0 ∧ State.reset.phase2 = 0 ∧ State.reset.inc1 = 0 ∧ State.reset.inc2 = 0 := by decide

theorem test_witness_AudioDependsOnlyOnWhatTickReads :
    SameTickInputs State.reset { State.reset with stgInc1 := 5, gPhase := .pressed, emaAcc := 9 } :=
  ⟨rfl, rfl, rfl, rfl, rfl, rfl, rfl⟩

/-- The clause about the operations that leave AUDIO_OUT. -/
theorem test_witness_AudioIsWrittenOncePerTickAndByNothingElse :
    Instr.nop ≠ .tick ∧ Instr.nop ≠ .reset := by decide

theorem test_witness_ElapsedTicksAreExactAcrossTheWrap : 65535 < 65536 ∧ (0 : Nat) < 65536 := by decide

theorem test_witness_RescaleClampsTheTruncatedQuotient :
    (819 : U10).toNat ≤ (820 : U10).toNat ∧ configT0.scaleNum = configT0.scaleDen ∧ 1 ≤ configT0.scaleDen := by decide

theorem test_witness_QuantCoversTheNoteIndices : (1023 : Nat) ≤ 1023 ∧ (1022 : Nat) ≤ 1023 ∧ (0 : Nat) ≤ 1022 := by
  decide

theorem test_witness_CtrlEvalStagesBothIncrements :
    State.reset.cfg.wf = true ∧ State.reset.emaAcc.toNat ≤ 16383 ∧
    ({ State.reset with emaAcc := 16383, emaInit := true } : State).emaAcc.toNat ≤ 16383 :=
  ⟨t0_wf, by decide, by decide⟩

theorem test_witness_DetuneCurveIsExactAtKnotsAndRises :
    configT0.wf = true ∧ (1022 : Nat) < 1023 ∧ (1023 : Nat) ≤ 1023 := ⟨t0_wf, by decide, by decide⟩

theorem test_witness_ZeroDetuneIsUnison :
    State.reset.cfg.wf = true ∧ rescale State.reset.cfg 0 = 0 := ⟨t0_wf, by decide⟩

/-- Both the general hypotheses and the clause at full detune. -/
theorem test_witness_DefaultTablesBoundTheIncrements :
    State.reset.cfg.noteTable = defaultNoteTable ∧ State.reset.cfg.detuneCurve = defaultDetuneCurve ∧
    State.reset.emaAcc.toNat ≤ 16383 ∧ rescale State.reset.cfg 1023 = 1023 := ⟨rfl, rfl, by decide, by decide⟩

theorem test_witness_SmoothedPitchReachesAConstantReading :
    ({ State.reset with emaAcc := 16383, emaInit := true } : State).emaAcc.toNat ≤ 16383 ∧ 16384 ≤ 16384 := by decide

theorem test_witness_FirstEvaluationAfterResetHasNoRampIn :
    (∀ i ∈ [Instr.tick, .pollGest 100, .wrInc1, .reset],
      (∀ p d, i ≠ .ctrlEval p d) ∧ (∀ p d, i ≠ .pollCtrl p d)) ∧
    (Instr.ctrlEval 512 0 = .ctrlEval 512 0 ∨ Instr.ctrlEval 512 0 = .pollCtrl 512 0) ∧
    (Instr.pollCtrl 512 0 = .ctrlEval 512 0 ∨ Instr.pollCtrl 512 0 = .pollCtrl 512 0) := by simp

theorem test_witness_EmaInitRecordsWhetherSmoothHasRun :
    (∀ i ∈ [Instr.tick, .ctrlEval 1 2], i ≠ .reset) ∧ (∀ i ∈ [Instr.tick], i ≠ .reset) := by decide

theorem test_witness_AtomicPublicationCopiesTheStagingRegister : State.reset.cfg.atomic16 = true := by decide

/-- Both answers at hand, and no answer at hand. -/
theorem test_witness_BytewisePublicationWritesOneByteFirst :
    bytewise.cfg.atomic16 = false ∧ ({ bytewise with choices := [true, false] } : State).choices = true :: [false] ∧
    ({ bytewise with choices := [false] } : State).choices = false :: [] ∧ bytewise.choices = [] := by decide

/-- Each of the four second byte writes, with an empty stream, before an operation of the foreground and before a
reserved word. -/
theorem test_witness_SecondByteWriteIsAStepOfItsOwn :
    ∀ b : ByteWrite, ∀ words ∈ [[], [FetchWord.cmd 0x500000], [FetchWord.cmd 0xE00000]],
      ∃ s : State, s.cfg.wf = true ∧ s.tornWrite = some b ∧ s.stream = words ∧
        ∀ w rest i, s.stream = w :: rest → decode w = .ok i → i.agent = .foreground := by
  intro b words hw
  refine ⟨{ bytewise with tornWrite := some b, stream := words }, bytewise_wf, rfl, rfl, ?_⟩
  intro w rest i hs hd
  simp only [List.mem_cons, List.not_mem_nil, or_false] at hw
  rcases hw with rfl | rfl | rfl
  · cases hs
  · cases hs; cases hd; rfl
  · cases hs; cases hd

/-- Both voices, byte 1 first and byte 0 first, with two ticks and with none in between. -/
theorem test_witness_TicksInsideAPublicationUseTheTornIncrement :
    ∀ (v : Voice) (high : Bool), ∀ n ∈ [0, 2], ∃ (s : State) (rest : List FetchWord) (later : List Bool),
      s.cfg.wf = true ∧ s.cfg.atomic16 = false ∧ s.tornWrite = none ∧
      s.stream = .cmd (match v with | .one => 0x400000 | .two => 0x500000) ::
        (List.replicate n (.cmd 0x100000) ++ .cmd 0x100000 :: rest) ∧
      s.choices = high :: (List.replicate n true ++ false :: later) :=
  fun v high n _ =>
    ⟨{ bytewise with
        stgInc1 := 2884
        stgInc2 := 4258
        stream := .cmd (match v with | .one => 0x400000 | .two => 0x500000) ::
          (List.replicate n (.cmd 0x100000) ++ [.cmd 0x100000])
        choices := high :: (List.replicate n true ++ [false]) }, [], [], bytewise_wf, rfl, rfl, rfl, rfl⟩

theorem test_witness_TickBetweenTheTwoPublicationsUsesAMixedPair : State.reset.cfg.atomic16 = true := by decide

theorem test_witness_PollCtrlIsTheThreeStepsWithNoTickBetween : State.reset.cfg.atomic16 = true := by decide

/-- Each band at its boundary (section 4.1). -/
theorem test_witness_ClassifyPutsEachReadingInItsBand :
    configT0.wf = true ∧ classify configT0 223 = .both ∧ classify configT0 224 = .right ∧
    classify configT0 299 = .right ∧ classify configT0 300 = .left ∧ classify configT0 379 = .left ∧
    classify configT0 380 = .none := ⟨t0_wf, by decide⟩

theorem test_witness_PollInNotPressedArmsBelowThePressThreshold :
    State.reset.gPhase = .notPressed ∧ onEntry.gPhase = .notPressed ∧ onEntry.cfg.classifyOnEntry = true ∧
    (379 : U10).toNat < State.reset.cfg.vPress ∧ ¬ (380 : U10).toNat < State.reset.cfg.vPress := by decide

theorem test_witness_PollInPressedKeepsTheMaximum :
    ({ State.reset with gPhase := .pressed } : State).gPhase = .pressed ∧
    (450 : U10).toNat ≤ State.reset.cfg.vRelease := by decide

/-- The boundary reading 451, with each kind of peak. -/
theorem test_witness_ReleasePollEmitsThePeakAndAdvancesTheShape :
    ({ State.reset with gPhase := .pressed, gPeak := .left, shape := 3 } : State).gPhase = .pressed ∧
    ({ State.reset with gPhase := .pressed, gPeak := .left } : State).gPeak ≠ .none ∧
    ({ State.reset with gPhase := .pressed } : State).gPeak = .none ∧
    State.reset.cfg.vRelease < (451 : U10).toNat := by decide

theorem test_witness_VoltageAboveThePressThresholdNeverGestures :
    State.reset.gPhase = .notPressed ∧ ∀ v ∈ [(1023 : U10), 450, 380], State.reset.cfg.vPress ≤ v.toNat := by decide

/-- With both values of CLASSIFY_ON_ENTRY, held readings at their boundary, and no held reading (traces b and h). -/
theorem test_witness_APressReportsTheMaximumOfItsReadings :
    State.reset.cfg.wf = true ∧ onEntry.cfg.wf = true ∧ State.reset.gPhase = .notPressed ∧
    onEntry.gPhase = .notPressed ∧ (379 : U10).toNat < State.reset.cfg.vPress ∧
    (∀ v ∈ [(100 : U10), 450], v.toNat ≤ State.reset.cfg.vRelease) ∧
    (∀ v ∈ ([] : List U10), v.toNat ≤ State.reset.cfg.vRelease) ∧
    State.reset.cfg.vRelease < (451 : U10).toNat :=
  ⟨t0_wf, by decide, rfl, rfl, by decide, by decide, by decide, by decide⟩

theorem test_witness_ShapeCountsTheConfirmedGestures :
    (∀ i ∈ [Instr.pollGest 100, .pollGest 100, .pollGest 1023, .tick], i ≠ .reset) ∧
    State.reset.shape.toNat < 4 := by decide

theorem test_witness_AStepRunsTheDecodedOperation :
    ∃ (s : State) (w : FetchWord) (rest : List FetchWord) (i : Instr),
      s.cfg.wf = true ∧ s.tornWrite = none ∧ s.stream = w :: rest ∧ decode w = .ok i :=
  ⟨{ State.reset with stream := [.cmd 0x3A03E8] }, .cmd 0x3A03E8, [], .ctrlEval 640 1000, t0_wf, rfl, rfl, by decide⟩

theorem test_witness_APlacedWordRunsNext :
    bytewise.cfg.wf = true ∧ decodeTableWord 24 0x600064 = some (.pollGest 100) ∧
    decodeTableWord 8 1 = some .waveSqr := ⟨bytewise_wf, by decide, by decide⟩

theorem test_witness_AnEmptyStreamIdles :
    State.reset.cfg.wf = true ∧ State.reset.tornWrite = none ∧ State.reset.stream = [] := ⟨t0_wf, rfl, rfl⟩

theorem test_witness_ConfigurationsBreakingTheConstraintsAreRejected :
    configT0.wf = true ∧ (State.resetWith { configT0 with vPress := 451 }).cfg.wf = false := by decide

theorem test_witness_ResetMeetsTheInvariant : configT1.wf = true := t1_wf

/-- A state that meets the invariant and steps: the second byte write of a publication, from a state in which SMOOTH
has run. -/
theorem test_witness_EveryStepKeepsTheInvariant :
    ∃ s t : State, s.Inv ∧ s.emaInit = true ∧ s.tornWrite.isSome = true ∧ step s = .next t := by
  refine ⟨halfPublished, halfPublished.publishSecondByte ⟨.one, true⟩,
    ⟨bytewise_wf, by decide, by decide, fun _ => ⟨⟨36, by decide⟩, 0, by decide, by decide⟩, nofun,
      fun _ => rfl, nofun, nofun⟩, rfl, rfl, ?_⟩
  simp only [step, nextMove, show halfPublished.cfg.wf = true from bytewise_wf, if_true,
    show halfPublished.tornWrite = some ⟨.one, true⟩ from rfl, moveInsideWrite,
    show halfPublished.stream = [] from rfl]

theorem test_witness_ASafeStreamNeverStops :
    ({ State.reset with stream := [.cmd 0x100000, .cmd 0x2FFFFF] } : State).Safe := by
  refine ⟨t0_wf, fun w hw => ?_⟩
  simp only [List.mem_cons, List.not_mem_nil, or_false] at hw
  rcases hw with rfl | rfl
  · exact ⟨.tick, by decide⟩
  · exact ⟨.pollCtrl 1023 1023, by decide⟩

/-- An operation of each agent, and a change of each kind of register the clauses speak of. -/
theorem test_witness_RegistersAreWrittenOnlyByTheirOwners :
    Instr.wrInc1 ≠ .reset ∧ Instr.wrInc1.agent = .foreground ∧ Instr.tick.agent = .tick ∧
    viewed (fun t => t.inc1) (exec .wrInc1 { State.reset with stgInc1 := 5 }) = some 5 ∧
    viewed (fun t => t.inc2) (exec .wrInc2 { State.reset with stgInc2 := 5 }) = some 5 ∧
    viewed (fun t => t.gPhase) (exec (.pollGest 100) State.reset) = some .pressed ∧
    viewed (fun t => t.emaInit) (exec (.ctrlEval 0 0) State.reset) = some true ∧
    viewed (fun t => t.ticks) (exec .tick State.reset) = some 1 := by decide

theorem test_witness_NoRunChangesATable :
    ∃ s t : State, Host.Core.run core 1 s = .next t ∧ s.stream = [.cmd 0x000000] :=
  ⟨{ State.reset with stream := [.cmd 0x000000] }, _, by
    rw [run_succ (t := State.reset)]
    · rfl
    · simp only [step, nextMove, show ({ State.reset with stream := [.cmd 0x000000] } : State).cfg.wf = true from t0_wf]
      rfl, rfl⟩

theorem test_witness_TheObservationOnlyGrows :
    ∃ s t : State, Host.Core.run core 1 s = .next t ∧ t.events = [.audio 0] := by
  refine ⟨{ State.reset with stream := [.cmd 0x100000] }, tick State.reset, ?_, by decide⟩
  rw [run_succ (t := tick State.reset)]
  · rfl
  · simp only [step, nextMove, show ({ State.reset with stream := [.cmd 0x100000] } : State).cfg.wf = true from t0_wf]
    rfl

end Sys2Proof.Tests
end

/-! SUPPORT. Which configurations have a meaning, and what the machine does under the others (00_scope.md R8). -/

namespace Sys2Proof.Machine

theorem curveRises_iff (c : Config) :
    c.curveRises = true ↔ ∀ k : Fin 32, c.detuneCurve[k.val].toNat ≤ c.detuneCurve[k.val + 1].toNat := by
  simp [Config.curveRises]

/-- The converse of `curve_rises`, `curve_zero`, `scale_positive` and `bands_ordered` together: nothing else is
asked of a configuration. -/
theorem wf_of_constraints {c : Config}
    (hrise : ∀ k : Fin 32, c.detuneCurve[k.val].toNat ≤ c.detuneCurve[k.val + 1].toNat)
    (hzero : c.detuneCurve[0] = 0)
    (hscale : 1 ≤ c.scaleNum ∧ 1 ≤ c.scaleDen)
    (hbands : c.vBoth < c.vRight ∧ c.vRight < c.vLeft ∧ c.vLeft ≤ c.vRelease ∧ c.vRelease ≤ 1023 ∧
      c.vPress ≤ c.vRelease) : c.wf = true := by
  have hcurve : c.curveRises = true := (curveRises_iff c).2 hrise
  have hstart : c.curveStartsAtZero = true := beq_iff_eq.2 hzero
  have hpositive : c.scalePositive = true := decide_eq_true hscale
  have hordered : c.bandsOrdered = true := decide_eq_true hbands
  simp only [Config.wf, hcurve, hstart, hpositive, hordered, Bool.and_self]

/-- Without a meaningful configuration no move is looked for, inside a publication or between two steps. -/
theorem nextMove_of_not_wf {s : State} (h : s.cfg.wf = false) : nextMove s = .reject := by
  simp [nextMove, h]

theorem step_of_not_wf {s : State} (h : s.cfg.wf = false) : step s = .refused .badConfig := by
  simp only [step, nextMove_of_not_wf h]

/-- Settles O50: each constraint of R8 is read off the check, the four together make the check hold, and a failed check
leaves the step no move. -/
theorem configurationsBreakingTheConstraintsAreRejected :
    Obligations.ConfigurationsBreakingTheConstraintsAreRejected := by
  refine ⟨fun c => ⟨fun hwf => ?_, ?_⟩, fun _ => step_of_not_wf⟩
  · exact ⟨fun k => curve_rises hwf k.isLt, curve_zero hwf, scale_positive hwf, bands_ordered hwf⟩
  · rintro ⟨hrise, hzero, hscale, hbands⟩
    exact wf_of_constraints hrise hzero hscale hbands

end Sys2Proof.Machine

/-! SUPPORT. The registers at reset, and when EMA_INIT is 1 (10_state.md R31, R42). -/

namespace Sys2Proof.Machine

/-- Settles O23: the listed values are the fields of `State.resetWith`, and `State.reset` is its instance at T0. -/
theorem resetStateHoldsTheListedValues : Obligations.ResetStateHoldsTheListedValues :=
  ⟨fun _ => ⟨rfl, rfl, rfl, rfl, rfl, rfl, rfl, rfl, rfl, rfl, rfl, rfl, rfl⟩, configT0, rfl⟩

/-- The operations SMOOTH runs in: CTRL.EVAL (R127) and POLL.CTRL (R130). -/
def RunsSmooth (i : Instr) : Prop := ∃ p d, i = .ctrlEval p d ∨ i = .pollCtrl p d

theorem ctrlEval_emaInit (p d : U10) (s : State) : (ctrlEval p d s).emaInit = true := rfl

theorem pollCtrl_emaInit (p d : U10) (s : State) : (pollCtrl p d s).emaInit = true := by
  simp only [pollCtrl, State.publishWhole, State.setInc_emaInit, ctrlEval_emaInit]

theorem publish_emaInit (s : State) (v : Voice) : (s.publish v).emaInit = s.emaInit := by
  obtain ⟨x, answers, ctr, left, e⟩ := publish_eq s v
  simp only [e, State.setInc_emaInit]

theorem after_emaInit_of_runsSmooth {i : Instr} (h : RunsSmooth i) (s : State) : (after i s).emaInit = true := by
  obtain ⟨p, d, rfl | rfl⟩ := h
  · exact ctrlEval_emaInit p d s
  · exact pollCtrl_emaInit p d s

/-- RESET clears EMA_INIT, the operations that run SMOOTH set it, and the others leave it. -/
theorem after_emaInit_of_not_runsSmooth {i : Instr} (hreset : i ≠ .reset) (h : ¬ RunsSmooth i) (s : State) :
    (after i s).emaInit = s.emaInit := by
  cases i with
  | reset => exact absurd rfl hreset
  | ctrlEval p d => exact absurd ⟨p, d, .inl rfl⟩ h
  | pollCtrl p d => exact absurd ⟨p, d, .inr rfl⟩ h
  | wrInc1 => exact publish_emaInit s .one
  | wrInc2 => exact publish_emaInit s .two
  | pollGest v => rw [after, pollGest_eq]
  | _ => rfl

theorem after_emaInit_iff {i : Instr} (hreset : i ≠ .reset) (s : State) :
    (after i s).emaInit = true ↔ s.emaInit = true ∨ RunsSmooth i := by
  by_cases h : RunsSmooth i
  · simp [after_emaInit_of_runsSmooth h, h]
  · simp [after_emaInit_of_not_runsSmooth hreset h, h]

/-- Along a run without RESET, EMA_INIT is 1 in the end exactly when it was 1 already or SMOOTH ran. -/
theorem foldl_after_emaInit_iff {is : List Instr} (hreset : ∀ i ∈ is, i ≠ .reset) (s : State) :
    (is.foldl (fun t i => after i t) s).emaInit = true ↔ s.emaInit = true ∨ ∃ i ∈ is, RunsSmooth i := by
  induction is generalizing s with
  | nil => simp
  | cons i is ih =>
    obtain ⟨hi, his⟩ := List.forall_mem_cons.1 hreset
    rw [List.foldl_cons, ih his, after_emaInit_iff hi, List.exists_mem_cons_iff, or_assoc]

/-- Settles O32: RESET leaves EMA_INIT 0, so after the run it is 1 exactly when SMOOTH ran in it. -/
theorem emaInitRecordsWhetherSmoothHasRun : Obligations.EmaInitRecordsWhetherSmoothHasRun := by
  intro is s hreset
  refine ⟨_, (runInstrs_cons .reset is s).trans (runInstrs_eq_foldl is _), ?_⟩
  have hclear : (after .reset s).emaInit = false := State.resetRegisters_emaInit s
  rw [foldl_after_emaInit_iff hreset, hclear]
  simp only [Bool.false_eq_true, false_or, RunsSmooth]

end Sys2Proof.Machine

/-! SUPPORT. What TICK does to the registers it shares with the foreground, and a TICK between the two publications
(20_memory.md R65). -/

namespace Sys2Proof.Machine

/-- TICK advances each voice by its own increment as it stands (43_sample_tick.md R160, 40_oscillator.md R100). -/
theorem tick_phase (s : State) (v : Voice) : (tick s).phase v = s.phase v + s.inc v := by cases v <;> rfl

theorem tick_inc (s : State) (v : Voice) : (tick s).inc v = s.inc v := by cases v <;> rfl

theorem tick_stg (s : State) (v : Voice) : (tick s).stg v = s.stg v := by cases v <;> rfl

/-- With `ATOMIC16 = true` both publications stay whole with a TICK between them: TICK leaves the configuration and the
staged increments as they are. -/
theorem runInstrs_wrInc1_tick_wrInc2 {s : State} (h : s.cfg.atomic16 = true) :
    runInstrs [.wrInc1, .tick, .wrInc2] s = .next ((tick (s.setInc .one s.stgInc1)).setInc .two s.stgInc2) := by
  have hfirst : after .wrInc1 s = s.setInc .one s.stgInc1 := publish_atomic h .one
  have hcfg : (tick (s.setInc .one s.stgInc1)).cfg.atomic16 = true :=
    (congrArg Config.atomic16 (after_cfg .tick _)).trans h
  have hstg : (tick (s.setInc .one s.stgInc1)).stg .two = s.stgInc2 := tick_stg _ .two
  rw [runInstrs_cons, hfirst, runInstrs_cons, after, runInstrs_cons, after, publish_atomic hcfg, hstg, runInstrs_nil]

/-- Settles O37: between the two publications INC1 is already the staged one and INC2 still the old one, and TICK
advances each voice by what it finds there. -/
theorem tickBetweenTheTwoPublicationsUsesAMixedPair :
    Obligations.TickBetweenTheTwoPublicationsUsesAMixedPair := by
  intro s h
  refine ⟨_, runInstrs_wrInc1_tick_wrInc2 h, ?_, ?_, ?_, rfl⟩
  · have hphase : (tick (s.setInc .one s.stgInc1)).phase1 = s.phase1 + s.stgInc1 := tick_phase _ .one
    rw [State.setInc_phase1, hphase, BitVec.toNat_add]
  · have hphase : (tick (s.setInc .one s.stgInc1)).phase2 = s.phase2 + s.inc2 := tick_phase _ .two
    rw [State.setInc_phase2, hphase, BitVec.toNat_add]
  · exact tick_inc _ .one

end Sys2Proof.Machine

/-! SUPPORT. The rows of R84 as masks and matches, the reserved codes and the agents of command words
(30_encoding.md R84, R85, R93). -/

namespace Sys2Proof

theorem aField_eq_zero_iff (w : BitVec 24) : aField w = 0 ↔ w.toNat / 1024 % 1024 = 0 := by
  rw [← aField_toNat, ← BitVec.toNat_inj]; rfl

theorem bField_eq_zero_iff (w : BitVec 24) : bField w = 0 ↔ w.toNat % 1024 = 0 := by
  rw [← bField_toNat, ← BitVec.toNat_inj]; rfl

theorem aField_eq_ofNat (w : BitVec 24) : aField w = BitVec.ofNat 10 (w.toNat / 1024) := by
  apply BitVec.eq_of_toNat_eq
  rw [aField_toNat, BitVec.toNat_ofNat]

theorem bField_eq_ofNat (w : BitVec 24) : bField w = BitVec.ofNat 10 w.toNat := by
  apply BitVec.eq_of_toNat_eq
  rw [bField_toNat, BitVec.toNat_ofNat]

/-- What a mask of high ones leaves of a word, as a number. -/
theorem and_highMask_eq_iff {k : Nat} (hk : k < 24) (w v : BitVec 24) :
    w &&& BitVec.ofNat 24 (16777216 - 2 ^ k) = v ↔ w.toNat / 2 ^ k * 2 ^ k = v.toNat := by
  have hlt : w.toNat / 2 ^ k * 2 ^ k < 2 ^ 24 := (Nat.div_mul_le_self _ _).trans_lt w.isLt
  rw [mask_clears_low w k hk, ← BitVec.toNat_inj, BitVec.toNat_ofNat, Nat.mod_eq_of_lt hlt]

/-- A row without operands matches one word only. -/
theorem and_wordMask_eq_iff (w v : BitVec 24) : w &&& 0xFFFFFF = v ↔ w.toNat = v.toNat := by
  simpa using and_highMask_eq_iff (k := 0) (by decide) w v

theorem and_opMask_eq_iff (w v : BitVec 24) : w &&& 0xF00000 = v ↔ w.toNat / 1048576 * 1048576 = v.toNat :=
  and_highMask_eq_iff (k := 20) (by decide) w v

theorem and_opAMask_eq_iff (w v : BitVec 24) : w &&& 0xFFFC00 = v ↔ w.toNat / 1024 * 1024 = v.toNat :=
  and_highMask_eq_iff (k := 10) (by decide) w v

/-- An operation whose row masks the whole word is decoded from the row's match and from nothing else. -/
theorem decodeCmd_ok_iff_of_wordMask {i : Instr} {v : BitVec 24} (hrow : i.cmdRow = some (0xFFFFFF, v))
    (w : BitVec 24) : decodeCmd w = .ok i ↔ w &&& 0xFFFFFF = v := by
  rw [and_wordMask_eq_iff, decodeCmd_ok_iff, aField_eq_zero_iff, bField_eq_zero_iff]
  cases i with
  | pollCtrl | ctrlEval | pollGest => simp [Instr.cmdRow] at hrow
  | waveSaw | waveSqr | waveTri | waveSin => cases hrow
  | _ =>
    obtain ⟨-, rfl⟩ := Prod.mk.inj (Option.some.inj hrow)
    simp only [reduceCtorEq, and_true, and_false, false_or, or_false, BitVec.ofNat_eq_ofNat, BitVec.toNat_ofNat]
    omega

theorem decodeCmd_pollCtrl_iff (w : BitVec 24) :
    decodeCmd w = .ok (.pollCtrl (aField w) (bField w)) ↔ w &&& 0xF00000 = 0x200000 := by
  rw [and_opMask_eq_iff, decodeCmd_ok_iff]
  simp only [reduceCtorEq, and_true, and_false, false_or, or_false, BitVec.ofNat_eq_ofNat, BitVec.toNat_ofNat]
  omega

theorem decodeCmd_ctrlEval_iff (w : BitVec 24) :
    decodeCmd w = .ok (.ctrlEval (aField w) (bField w)) ↔ w &&& 0xF00000 = 0x300000 := by
  rw [and_opMask_eq_iff, decodeCmd_ok_iff]
  simp only [reduceCtorEq, and_true, and_false, false_or, or_false, BitVec.ofNat_eq_ofNat, BitVec.toNat_ofNat]
  omega

theorem decodeCmd_pollGest_iff (w : BitVec 24) :
    decodeCmd w = .ok (.pollGest (bField w)) ↔ w &&& 0xFFFC00 = 0x600000 := by
  rw [and_opAMask_eq_iff, decodeCmd_ok_iff, aField_eq_zero_iff]
  simp only [reduceCtorEq, and_true, and_false, false_or, or_false, BitVec.ofNat_eq_ofNat, BitVec.toNat_ofNat]
  omega

/-- A reserved code is reported only for the code itself, never for an operand field. -/
theorem decodeBare_ne_error_op (w : BitVec 24) (i : Instr) : decodeBare w i ≠ .error .op := by
  unfold decodeBare
  split <;> simp

theorem decodeCmd_error_op_iff (w : BitVec 24) :
    decodeCmd w = .error .op ↔ 8 ≤ w.toNat / 1048576 ∧ w.toNat / 1048576 ≤ 14 := by
  have hlt := w.isLt
  unfold decodeCmd
  rw [opField_toNat]
  split <;> rename_i hop
  case h_3 => simp [hop]
  case h_4 => simp [hop]
  case h_7 => split <;> simp [hop]
  case h_10 =>
    simp only [imp_false, true_iff] at *
    omega
  all_goals simp [hop, decodeBare_ne_error_op]

/-- A command word never stands for a micro-operation (R87). -/
theorem cmdRow_isSome_of_decodeCmd_ok {w : BitVec 24} {i : Instr} (h : decodeCmd w = .ok i) : i.cmdRow.isSome := by
  rcases (decodeCmd_ok_iff w i).1 h with ⟨-, -, h⟩ | ⟨-, rfl⟩ | ⟨-, rfl⟩ | ⟨-, -, rfl⟩
  · rcases h with ⟨-, rfl⟩ | ⟨-, rfl⟩ | ⟨-, rfl⟩ | ⟨-, rfl⟩ | ⟨-, rfl⟩ | ⟨-, rfl⟩ <;> rfl
  all_goals rfl

/-- The column `agent` of R84: over the operations with a row, TICK and RESET are the only ones not of the
foreground. -/
theorem agent_of_cmdRow_isSome {i : Instr} (h : i.cmdRow.isSome) :
    (i.agent = .tick ↔ i = .tick) ∧ (i.agent = .environment ↔ i = .reset) ∧
      (i.agent = .foreground ↔ i ≠ .tick ∧ i ≠ .reset) := by
  cases i <;> simp [Instr.cmdRow, Instr.agent] at h ⊢

/-- Settles O3, row by row: a word that a row matches has the row's `op` and its required zeros as numbers, which is
what the decoder accepts; the reserved codes and the agents are the two lemmas above. -/
theorem wordsSelectTheirRowByMaskAndMatch : Obligations.WordsSelectTheirRowByMaskAndMatch := by
  intro w
  rw [← aField_eq_ofNat, ← bField_eq_ofNat]
  exact ⟨decodeCmd_ok_iff_of_wordMask rfl w, decodeCmd_ok_iff_of_wordMask rfl w, decodeCmd_pollCtrl_iff w,
    decodeCmd_ctrlEval_iff w, decodeCmd_ok_iff_of_wordMask rfl w, decodeCmd_ok_iff_of_wordMask rfl w,
    decodeCmd_pollGest_iff w, decodeCmd_ok_iff_of_wordMask rfl w, decodeCmd_ok_iff_of_wordMask rfl w,
    (decodeCmd_error_op_iff w).symm, fun _ h => agent_of_cmdRow_isSome (cmdRow_isSome_of_decodeCmd_ok h)⟩

end Sys2Proof

/-! SUPPORT. The waveform functions and the mix as numbers (40_oscillator.md R103 to R108). -/

namespace Sys2Proof.Machine

theorem waveSaw_toNat (p : U16) : (waveSaw p).toNat = p.toNat / 256 := highByte_toNat p

theorem waveSqr_eq (p : U16) : waveSqr p = if 127 < p.toNat / 256 then 255 else 0 := by
  rw [waveSqr, highByte_toNat]

theorem waveSqr_toNat (p : U16) : (waveSqr p).toNat = if 127 < p.toNat / 256 then 255 else 0 := by
  rw [waveSqr_eq, apply_ite BitVec.toNat]
  rfl

/-- Below 32768 the ramp `p[14:7]` is the whole of `p >> 7`. -/
theorem waveTri_toNat_of_lt {p : U16} (h : p.toNat < 32768) : (waveTri p).toNat = p.toNat / 128 := by
  have htop : ¬ topBit p = true := mt (topBit_iff p).1 h.not_ge
  rw [waveTri, if_neg htop, rampBits_toNat, Nat.mod_eq_of_lt (Nat.div_lt_of_lt_mul h)]

/-- From 32768 on the ramp leaves bit 15 out, and its complement counts down from 255. -/
theorem waveTri_toNat_of_ge {p : U16} (h : 32768 ≤ p.toNat) :
    (waveTri p).toNat = 255 - (p.toNat - 32768) / 128 := by
  have hramp : p.toNat / 128 % 256 = (p.toNat - 32768) / 128 := by
    have hlt := p.isLt
    omega
  rw [waveTri, if_pos ((topBit_iff p).2 h), BitVec.toNat_not, rampBits_toNat, hramp]

theorem waveSin_eq (c : Config) (p : U16) (h : p.toNat / 256 < 256) : waveSin c p = c.sineTable[p.toNat / 256] := by
  rw [waveSin, highByte_toNat]
  exact tableRead_inside _ _ h

/-- Settles O7: each clause is the function's value as a number; the triangle has one value per half of the period. -/
theorem waveformSamplesMatchTheirClosedForms : Obligations.WaveformSamplesMatchTheirClosedForms := by
  intro c p
  refine ⟨waveSaw_toNat p, waveSqr_toNat p, ?_, Nat.div_lt_of_lt_mul p.isLt, waveSin_eq c p _⟩
  split
  case isTrue h => exact waveTri_toNat_of_lt h
  case isFalse h => exact waveTri_toNat_of_ge (not_lt.1 h)

/-- Settles O8: each of the four codes names one waveform (R80), and WAVEGEN runs that waveform's function. -/
theorem waveformSelectorHasNoDefaultArm : Obligations.WaveformSelectorHasNoDefaultArm :=
  fun _ _ => ⟨rfl, rfl, rfl, rfl⟩

/-- The mean of two bytes is a byte, so nothing of the sum is lost. -/
theorem mix_toNat (x y : U8) : (mix x y).toNat = (x.toNat + y.toNat) / 2 := by
  have hbyte : (x.toNat + y.toNat) / 2 < 2 ^ 8 := by
    have hx := x.isLt
    have hy := y.isLt
    omega
  rw [mix, BitVec.toNat_ofNat, Nat.mod_eq_of_lt hbyte]

theorem mix_comm (x y : U8) : mix x y = mix y x := by rw [mix, mix, Nat.add_comm]

theorem mix_self (x : U8) : mix x x = x := by
  apply BitVec.eq_of_toNat_eq
  rw [mix_toNat]
  omega

/-- Settles O9: the exact mean gives the first clause, and the identity on equal samples by halving a double. -/
theorem mixIsTheTruncatedMean : Obligations.MixIsTheTruncatedMean :=
  fun x y => ⟨mix_toNat x y, mix_comm x y, mix_self x⟩

end Sys2Proof.Machine

/-! SUPPORT. The control mapper: RESCALE, QUANT and the curve as numbers, what CTRL.EVAL writes, and a publication
with `ATOMIC16 = true` (41_control_mapper.md R120 to R129). -/

namespace Sys2Proof.Machine

theorem rescale_zero (c : Config) : rescale c 0 = 0 := by simp [rescale, reading]

theorem rescale_mono (c : Config) {raw raw' : U10} (h : raw.toNat ≤ raw'.toNat) : rescale c raw ≤ rescale c raw' :=
  min_le_min_left _ (Nat.div_le_div_right (Nat.mul_le_mul_right _ h))

/-- At equal scale the quotient is the reading itself, which is below the clamp. -/
theorem rescale_of_equal_scale {c : Config} (heq : c.scaleNum = c.scaleDen) (hpos : 1 ≤ c.scaleDen) (raw : U10) :
    rescale c raw = raw.toNat := by
  rw [rescale, heq, Nat.mul_div_cancel _ hpos]
  exact min_eq_right (Nat.le_of_lt_succ raw.isLt)

/-- Settles O24: the formula is the definition; the product, the quotient and the clamp are each monotone, and at equal
scale the quotient gives the reading back. -/
theorem rescaleClampsTheTruncatedQuotient : Obligations.RescaleClampsTheTruncatedQuotient :=
  fun c raw _ => ⟨rfl, rescale_zero c, rescale_mono c, fun heq hpos => rescale_of_equal_scale heq hpos raw⟩

theorem quant_mono {x y : Nat} (h : y ≤ x) : quant y ≤ quant x :=
  Nat.div_le_div_right (Nat.mul_le_mul_right _ h)

/-- The note index is within NOTE_TABLE for every smoothed reading. -/
theorem quant_le {x : Nat} (h : x ≤ 1023) : quant x ≤ 72 := quant_mono h

/-- `x * 72` reaches `72 * 1023` at the last reading and not before. -/
theorem quant_eq_last_iff {x : Nat} (h : x ≤ 1023) : quant x = 72 ↔ x = 1023 := by
  unfold quant
  omega

/-- Settles O25: the range is monotony at the last reading. -/
theorem quantCoversTheNoteIndices : Obligations.QuantCoversTheNoteIndices :=
  fun _ h => ⟨rfl, quant_le h, quant_eq_last_iff h, fun _ => quant_mono⟩

/-- Within the bound of R132 neither form of SMOOTH's new accumulator exceeds 16 bits. -/
theorem smoothAcc_toNat {s : State} {v : Nat} (hv : v ≤ 1023) (h : s.emaAcc.toNat ≤ 16383) :
    (smoothAcc s v).toNat = if s.emaInit then s.emaAcc.toNat + v - s.emaAcc.toNat / 16 else v * 16 := by
  unfold smoothAcc
  split <;> exact (BitVec.toNat_ofNat _ _).trans (Nat.mod_eq_of_lt (by omega))

theorem smoothed_le {s : State} (h : s.emaAcc.toNat ≤ 16383) : smoothed s ≤ 1023 := by
  unfold smoothed
  omega

theorem baseIncrement_eq (c : Config) {x : Nat} (h : quant x < 73) : baseIncrement c x = c.noteTable[quant x] :=
  tableRead_inside _ _ h

/-- Up to the last reading both knots that DET.INTERP reads are on the curve. -/
theorem knot_lt {d : Nat} (h : d ≤ 1023) : d / 32 + 1 < 33 := by omega

theorem detInterp_eq (c : Config) {d : Nat} (h : d / 32 + 1 < 33) :
    detInterp c d = c.detuneCurve[d / 32].toNat +
      (c.detuneCurve[d / 32 + 1].toNat - c.detuneCurve[d / 32].toNat) * (d % 32) / 32 := by
  simp only [detInterp, readDetune_inside c h, readDetune_inside c (Nat.lt_of_succ_lt h)]

theorem detunedIncrement_toNat (c : Config) (base : U16) (d : Nat) :
    (detunedIncrement c base d).toNat = (base.toNat + base.toNat * detInterp c d / 1024) % 65536 :=
  BitVec.toNat_ofNat _ _

theorem ctrlEval_emaAcc (p d : U10) (s : State) : (ctrlEval p d s).emaAcc = smoothAcc s (rescale s.cfg p) := rfl

theorem ctrlEval_stgInc1 (p d : U10) (s : State) :
    (ctrlEval p d s).stgInc1 = baseIncrement s.cfg (smoothed (ctrlEval p d s)) := rfl

theorem ctrlEval_stgInc2 (p d : U10) (s : State) :
    (ctrlEval p d s).stgInc2 = detunedIncrement s.cfg (ctrlEval p d s).stgInc1 (rescale s.cfg d) := rfl

/-- CTRL.EVAL writes EMA_ACC, EMA_INIT and the staging registers, and nothing else (R127). -/
theorem ctrlEval_frame (p d : U10) (s : State) :
    ctrlEval p d s = { s with
      emaAcc := (ctrlEval p d s).emaAcc, emaInit := (ctrlEval p d s).emaInit
      stgInc1 := (ctrlEval p d s).stgInc1, stgInc2 := (ctrlEval p d s).stgInc2 } := rfl

/-- CTRL.EVAL keeps the bound of R132. -/
theorem ctrlEval_emaAcc_le (p d : U10) {s : State} (h : s.emaAcc.toNat ≤ 16383) :
    (ctrlEval p d s).emaAcc.toNat ≤ 16383 := by
  rw [ctrlEval_emaAcc]
  exact smoothAcc_le s (rescale_le _ _) h

/-- Settles O26: the bound of R132 keeps the new accumulator exact and, after the operation, the note index in range;
the clamp of RESCALE keeps both knots in range. -/
theorem ctrlEvalStagesBothIncrements : Obligations.CtrlEvalStagesBothIncrements := by
  intro p d s _ hacc
  have hnote : quant (smoothed (ctrlEval p d s)) < 73 :=
    Nat.lt_succ_of_le (quant_le (smoothed_le (ctrlEval_emaAcc_le p d hacc)))
  have hknot : rescale s.cfg d / 32 + 1 < 33 := knot_lt (rescale_le _ _)
  refine ⟨ctrlEval p d s, exec_eq_after _ _, ?_, ctrlEval_emaInit p d s, ⟨hnote, ?_⟩, ⟨_, hknot, rfl, ?_⟩,
    ctrlEval_frame p d s⟩
  · rw [ctrlEval_emaAcc]
    exact smoothAcc_toNat (rescale_le _ _) hacc
  · rw [ctrlEval_stgInc1]
    exact baseIncrement_eq _ hnote
  · rw [ctrlEval_stgInc2, detunedIncrement_toNat, detInterp_eq _ hknot]

/-- Settles O33: each of the two is the publication of its voice, which is one whole write. -/
theorem atomicPublicationCopiesTheStagingRegister : Obligations.AtomicPublicationCopiesTheStagingRegister :=
  fun _ h => ⟨congrArg Host.Outcome.next (publish_atomic h .one), congrArg Host.Outcome.next (publish_atomic h .two)⟩

end Sys2Proof.Machine

/-! SUPPORT. The order of the virtual-button values (30_encoding.md R81). -/

namespace Sys2Proof

theorem Button.code_toNat_inj {a b : Button} : a.code.toNat = b.code.toNat ↔ a = b := by
  cases a <;> cases b <;> decide

/-- On equal codes the two values are the same, so `max` may keep either. -/
theorem Button.max_eq (a b : Button) : a.max b = if a.code.toNat < b.code.toNat then b else a := by
  unfold Button.max
  rcases lt_trichotomy a.code.toNat b.code.toNat with hlt | heq | hgt
  · rw [if_pos hlt.le, if_pos hlt]
  · rw [if_pos heq.le, if_neg heq.not_lt, Button.code_toNat_inj.1 heq]
  · rw [if_neg hgt.not_ge, if_neg hgt.not_gt]

end Sys2Proof

/-! SUPPORT. The gesture detector: the bands of CLASSIFY, and a poll that returns none
(42_gesture_detector.md R140 to R144). -/

namespace Sys2Proof.Machine

/-- CLASSIFY asks the thresholds from the lowest up, so a reading that failed one comparison is in a band above
it (R140). -/
theorem classify_cases (c : Config) (v : U10) :
    (v.toNat < c.vBoth ∧ classify c v = .both) ∨
    (c.vBoth ≤ v.toNat ∧ v.toNat < c.vRight ∧ classify c v = .right) ∨
    (c.vBoth ≤ v.toNat ∧ c.vRight ≤ v.toNat ∧ v.toNat < c.vLeft ∧ classify c v = .left) ∨
    (c.vBoth ≤ v.toNat ∧ c.vRight ≤ v.toNat ∧ c.vLeft ≤ v.toNat ∧ classify c v = .none) := by
  unfold classify reading
  split
  case isTrue hboth => exact .inl ⟨hboth, rfl⟩
  split
  case isTrue hboth hright => exact .inr (.inl ⟨not_lt.1 hboth, hright, rfl⟩)
  split
  case isTrue hboth hright hleft => exact .inr (.inr (.inl ⟨not_lt.1 hboth, not_lt.1 hright, hleft, rfl⟩))
  case isFalse hboth hright hleft =>
    exact .inr (.inr (.inr ⟨not_lt.1 hboth, not_lt.1 hright, not_lt.1 hleft, rfl⟩))

/-- Settles O40: the thresholds in the order of R8 keep the four bands apart, so the class names the band. -/
theorem classifyPutsEachReadingInItsBand : Obligations.ClassifyPutsEachReadingInItsBand := by
  intro c v hwf
  obtain ⟨hbothRight, hrightLeft, -⟩ := bands_ordered hwf
  rcases classify_cases c v with ⟨_, hclass⟩ | ⟨_, _, hclass⟩ | ⟨_, _, _, hclass⟩ | ⟨_, _, _, hclass⟩
  all_goals
    simp only [hclass, reduceCtorEq, true_iff, false_iff]
    omega

/-- A poll with result none confirms nothing: it is GEST.STEP, and the returned none (R144). -/
theorem pollGest_of_result_none {v : U10} {s : State} (h : gestResult v s = .none) :
    pollGest v s = (gestStep v s).emit (.gesture .none) := by
  rw [pollGest, h, confirm, if_pos rfl]

theorem gestResult_of_notPressed (v : U10) {s : State} (h : s.gPhase = .notPressed) : gestResult v s = .none := by
  simp only [gestResult, h]

theorem gestStep_of_notPressed (v : U10) {s : State} (h : s.gPhase = .notPressed) :
    gestStep v s = gestNotPressed v s := by
  simp only [gestStep, h]

theorem gestResult_of_held {v : U10} {s : State} (h : s.gPhase = .pressed) (hv : v.toNat ≤ s.cfg.vRelease) :
    gestResult v s = .none := by
  simp only [gestResult, h, reading, hv.not_gt, if_false]

theorem gestStep_of_held {v : U10} {s : State} (h : s.gPhase = .pressed) (hv : v.toNat ≤ s.cfg.vRelease) :
    gestStep v s = gestHeld v s := by
  simp only [gestStep, h, reading, hv.not_gt, if_false]

theorem gestNotPressed_of_lt {v : U10} {s : State} (h : v.toNat < s.cfg.vPress) :
    gestNotPressed v s = { s with gPhase := .pressed, gPeak := entryPeak s.cfg v } := if_pos h

theorem gestNotPressed_of_ge {v : U10} {s : State} (h : s.cfg.vPress ≤ v.toNat) :
    gestNotPressed v s = { s with gPeak := .none } := if_neg h.not_gt

theorem gestHeld_eq (v : U10) (s : State) :
    gestHeld v s = { s with
      gPeak := if s.gPeak.code.toNat < (classify s.cfg v).code.toNat then classify s.cfg v else s.gPeak } :=
  congrArg s.setGPeak (Button.max_eq _ _)

/-- Settles O41: the poll returns none, and GEST.STEP starts a press exactly below V_PRESS; only there can the entry
reading be classified. -/
theorem pollInNotPressedArmsBelowThePressThreshold : Obligations.PollInNotPressedArmsBelowThePressThreshold := by
  intro v s hphase
  rw [exec_eq_after, after, pollGest_of_result_none (gestResult_of_notPressed v hphase),
    gestStep_of_notPressed v hphase]
  rcases lt_or_ge v.toNat s.cfg.vPress with hv | hv
  · simp only [gestNotPressed_of_lt hv, State.emit, entryPeak, hv, if_true, and_true]
  · simp only [gestNotPressed_of_ge hv, State.emit, hv.not_gt, if_false, and_false, ← hphase]

/-- Settles O42: a reading not above V_RELEASE keeps the press, and the held peak is the larger by code. -/
theorem pollInPressedKeepsTheMaximum : Obligations.PollInPressedKeepsTheMaximum := by
  intro v s hphase hv
  rw [exec_eq_after, after, pollGest_of_result_none (gestResult_of_held hphase hv), gestStep_of_held hphase hv,
    gestHeld_eq]
  rfl

end Sys2Proof.Machine

/-! SUPPORT. The sample tick: the result of TICK register by register and its frame, the reads and the no-operation, and
who writes AUDIO_OUT (43_sample_tick.md R160, R161, R165, R167). -/

namespace Sys2Proof.Machine

theorem tick_ticks (s : State) : (tick s).ticks = s.ticks + 1 := rfl

/-- The samples are generated from the phases after the advance (R160). -/
theorem tick_samples (s : State) :
    (tick s).s1 = waveGen s.cfg (shapeCode s.shape) (tick s).phase1 ∧
    (tick s).s2 = waveGen s.cfg (shapeCode s.shape) (tick s).phase2 := ⟨rfl, rfl⟩

theorem tick_audioOut (s : State) : (tick s).audioOut = mix (tick s).s1 (tick s).s2 := rfl

theorem tick_events (s : State) : (tick s).events = s.events ++ [.audio (tick s).audioOut] := rfl

theorem tick_frame (s : State) :
    tick s = { s with ticks := (tick s).ticks, phase1 := (tick s).phase1, phase2 := (tick s).phase2, s1 := (tick s).s1,
                      s2 := (tick s).s2, audioOut := (tick s).audioOut, events := (tick s).events } := rfl

theorem shapeCode_eq_ofNat (b : U8) : shapeCode b = BitVec.ofNat 2 b.toNat :=
  BitVec.eq_of_toNat_eq (by rw [shapeCode_toNat, BitVec.toNat_ofNat])

/-- Settles O12: the additions of TICK are additions of words, so they are modulo 65536, and MIX is the halved sum. -/
theorem tickAdvancesMixesAndEmits : Obligations.TickAdvancesMixesAndEmits := by
  intro s
  have hphase1 : (tick s).phase1 = s.phase1 + s.inc1 := tick_phase s .one
  have hphase2 : (tick s).phase2 = s.phase2 + s.inc2 := tick_phase s .two
  rw [← shapeCode_eq_ofNat]
  refine ⟨tick s, exec_eq_after .tick s, ?_, ?_, ?_, (tick_samples s).1, (tick_samples s).2, ?_, tick_events s,
    tick_frame s⟩
  · rw [tick_ticks, BitVec.toNat_add]; rfl
  · rw [hphase1, BitVec.toNat_add]
  · rw [hphase2, BitVec.toNat_add]
  · rw [tick_audioOut, mix_toNat]

theorem publish_events (s : State) (v : Voice) : (s.publish v).events = s.events := by
  obtain ⟨x, answers, ctr, left, e⟩ := publish_eq s v
  simp only [e, State.setInc_events]

theorem publish_audioOut (s : State) (v : Voice) : (s.publish v).audioOut = s.audioOut := by
  obtain ⟨x, answers, ctr, left, e⟩ := publish_eq s v
  simp only [e, State.setInc_audioOut]

theorem gestStep_events (v : U10) (s : State) : (gestStep v s).events = s.events := by rw [gestStep_eq]

theorem audioValues_emit (s : State) (e : Event) :
    audioValues (s.emit e).events = audioValues s.events ++ audioValues [e] := audioValues_append _ _

theorem audioValues_confirm (result : Button) (s : State) :
    audioValues (confirm result s).events = audioValues s.events := by
  unfold confirm
  split
  · rfl
  · exact (audioValues_emit _ _).trans (List.append_nil _)

/-- The events of a poll are the feedback of a confirmed gesture and the returned result (R144, R146). -/
theorem audioValues_pollGest (v : U10) (s : State) :
    audioValues (pollGest v s).events = audioValues s.events := by
  rw [pollGest, audioValues_emit, audioValues_confirm, gestStep_events]
  exact List.append_nil _

theorem audioValues_tick (s : State) :
    audioValues (tick s).events = audioValues s.events ++ [(tick s).audioOut] := audioValues_append _ _

theorem audioValues_after_of_ne_tick {i : Instr} (h : i ≠ .tick) (s : State) :
    audioValues (after i s).events = audioValues s.events := by
  cases i with
  | tick => exact absurd rfl h
  | wrInc1 => exact congrArg audioValues (publish_events s .one)
  | wrInc2 => exact congrArg audioValues (publish_events s .two)
  | pollGest v => exact audioValues_pollGest v s
  | rdTicks => exact (audioValues_emit s _).trans (List.append_nil _)
  | _ => rfl

/-- RESET is left out with TICK: it gives AUDIO_OUT no defined value (R200). -/
theorem after_audioOut_of_ne_tick {i : Instr} (htick : i ≠ .tick) (hreset : i ≠ .reset) (s : State) :
    (after i s).audioOut = s.audioOut := by
  cases i with
  | tick => exact absurd rfl htick
  | reset => exact absurd rfl hreset
  | wrInc1 => exact publish_audioOut s .one
  | wrInc2 => exact publish_audioOut s .two
  | pollGest v => rw [after, pollGest_eq]
  | _ => rfl

/-- Settles O18: the write that ends a TICK is its one AUDIO event, and no other operation appends such an event. -/
theorem audioIsWrittenOncePerTickAndByNothingElse : Obligations.AudioIsWrittenOncePerTickAndByNothingElse := by
  intro i s
  refine ⟨after i s, exec_eq_after i s, ?_, fun htick hreset => after_audioOut_of_ne_tick htick hreset s⟩
  split
  case isTrue h => subst h; exact audioValues_tick s
  case isFalse h => rw [audioValues_after_of_ne_tick h, List.append_nil]

/-- Settles O19: the read appends the value of TICKS to the observation. -/
theorem readingTicksReturnsThemAndChangesNothing : Obligations.ReadingTicksReturnsThemAndChangesNothing :=
  exec_eq_after .rdTicks

/-- Settles O21: NOP is the identity on states. -/
theorem nopChangesNothing : Obligations.NopChangesNothing := exec_eq_after .nop

end Sys2Proof.Machine

/-! SUPPORT. The first run of SMOOTH after RESET (70_reset_and_hazards.md R203, 41_control_mapper.md R121). -/

namespace Sys2Proof.Machine

theorem foldl_after_cfg (is : List Instr) (s : State) : (is.foldl (fun t i => after i t) s).cfg = s.cfg := by
  induction is generalizing s with
  | nil => rfl
  | cons i is ih => rw [List.foldl_cons, ih, after_cfg]

/-- While SMOOTH does not run EMA_INIT stays 0; RESET, which clears it, is no exception (R31). -/
theorem after_emaInit_eq_false {i : Instr} (h : ¬ RunsSmooth i) {s : State} (hs : s.emaInit = false) :
    (after i s).emaInit = false := by
  by_cases hreset : i = .reset
  · subst hreset
    exact State.resetRegisters_emaInit s
  · rw [after_emaInit_of_not_runsSmooth hreset h, hs]

theorem foldl_after_emaInit_eq_false {is : List Instr} (h : ∀ i ∈ is, ¬ RunsSmooth i) {s : State}
    (hs : s.emaInit = false) : (is.foldl (fun t i => after i t) s).emaInit = false := by
  induction is generalizing s with
  | nil => exact hs
  | cons i is ih =>
    obtain ⟨hi, his⟩ := List.forall_mem_cons.1 h
    exact ih his (after_emaInit_eq_false hi hs)

/-- The first SMOOTH takes 16 times the reading, with no share of the old accumulator (R121). A reading up to 1023
fits the register. -/
theorem smoothAcc_toNat_of_first {s : State} {v : Nat} (hs : s.emaInit = false) (hv : v ≤ 1023) :
    (smoothAcc s v).toNat = 16 * v := by
  simp only [smoothAcc, hs, Bool.false_eq_true, if_false, BitVec.toNat_ofNat]
  omega

/-- The publications of POLL.CTRL leave the accumulator as CTRL.EVAL set it (R130). -/
theorem pollCtrl_emaAcc (p d : U10) (s : State) : (pollCtrl p d s).emaAcc = smoothAcc s (rescale s.cfg p) := by
  simp only [pollCtrl, State.publishWhole, State.setInc_emaAcc, ctrlEval_emaAcc]

theorem after_emaAcc_of_evaluation {i : Instr} {p d : U10} (h : i = .ctrlEval p d ∨ i = .pollCtrl p d) (s : State) :
    (after i s).emaAcc = smoothAcc s (rescale s.cfg p) := by
  obtain rfl | rfl := h
  · exact ctrlEval_emaAcc p d s
  · exact pollCtrl_emaAcc p d s

theorem after_emaAcc_toNat_of_first_evaluation {i : Instr} {p d : U10} (h : i = .ctrlEval p d ∨ i = .pollCtrl p d)
    {s : State} (hs : s.emaInit = false) : (after i s).emaAcc.toNat = 16 * rescale s.cfg p := by
  rw [after_emaAcc_of_evaluation h, smoothAcc_toNat_of_first hs (rescale_le _ _)]

theorem smoothed_of_emaAcc_toNat {s : State} {v : Nat} (h : s.emaAcc.toNat = 16 * v) : smoothed s = v := by
  rw [smoothed, h, Nat.mul_div_cancel_left _ (by decide)]

/-- Settles O31: EMA_INIT is still 0 when the evaluation begins, so SMOOTH sets the accumulator instead of moving it,
and the smoothed reading is the sixteenth of it. -/
theorem firstEvaluationAfterResetHasNoRampIn : Obligations.FirstEvaluationAfterResetHasNoRampIn := by
  intro is p d s last his hlast
  have hsmooth : ∀ i ∈ is, ¬ RunsSmooth i := by
    rintro i hi ⟨p', d', h | h⟩
    · exact (his i hi).1 p' d' h
    · exact (his i hi).2 p' d' h
  have hinit := foldl_after_emaInit_eq_false hsmooth (State.resetRegisters_emaInit s)
  have hcfg := (foldl_after_cfg is s.resetRegisters).trans (State.resetRegisters_cfg s)
  have hacc := after_emaAcc_toNat_of_first_evaluation hlast hinit
  rw [hcfg] at hacc
  refine ⟨_, ?_, after_emaInit_of_runsSmooth ⟨p, d, hlast⟩ _, hacc, smoothed_of_emaAcc_toNat hacc⟩
  rw [runInstrs_cons, runInstrs_append, runInstrs_cons, runInstrs_nil]
  rfl

end Sys2Proof.Machine

/-! SUPPORT. The step between two foreground steps: the next word of the stream, its refusal when it is reserved, and
the placed word (20_memory.md R64, 30_encoding.md R93, R96). -/

namespace Sys2Proof.Machine

theorem nextMove_issue_between {s : State} {w : FetchWord} {rest : List FetchWord} (hwf : s.cfg.wf = true)
    (htorn : s.tornWrite = none) (hstream : s.stream = w :: rest) :
    nextMove s = .issue w { s with stream := rest } := by
  simp only [nextMove, hwf, htorn, moveBetweenSteps, hstream, if_true]

theorem step_of_issue_ok {s u : State} {w : FetchWord} {i : Instr} (hmove : nextMove s = .issue w u)
    (hdecode : decode w = .ok i) : step s = exec i u := by
  simp only [step, hmove, hdecode]

theorem step_of_issue_error {s u : State} {w : FetchWord} {e : Reserved} (hmove : nextMove s = .issue w u)
    (hdecode : decode w = .error e) : step s = .refused (.reservedWord w) := by
  simp only [step, hmove, hdecode]

theorem step_of_empty_stream {s : State} (hwf : s.cfg.wf = true) (htorn : s.tornWrite = none)
    (hstream : s.stream = []) : step s = .next s := by
  simp only [step, nextMove, hwf, htorn, moveBetweenSteps, hstream, if_true]

/-- Settles O47: between two steps the move is to issue the next word, and an issued word runs what it decodes to. -/
theorem aStepRunsTheDecodedOperation : Obligations.AStepRunsTheDecodedOperation :=
  fun _ _ _ _ hwf htorn hstream hdecode => step_of_issue_ok (nextMove_issue_between hwf htorn hstream) hdecode

theorem decode_of_decodeTableWord {nbits w : Nat} {i : Instr} (h : decodeTableWord nbits w = some i) :
    decode (tableWord nbits w) = .ok i := by
  unfold decodeTableWord at h
  split at h
  case h_1 hdecode => rw [hdecode, Option.some.inj h]
  case h_2 => cases h

/-- Settles O48: the placed word heads the stream of a state between two steps. -/
theorem aPlacedWordRunsNext : Obligations.APlacedWordRunsNext :=
  fun s nbits w _ hwf hdecode =>
    step_of_issue_ok (nextMove_issue_between (s := s.withFetchWord nbits w) hwf rfl rfl)
      (decode_of_decodeTableWord hdecode)

/-- Settles O49: with no word in the stream and no byte to write there is nothing to issue. -/
theorem anEmptyStreamIdles : Obligations.AnEmptyStreamIdles := fun _ => step_of_empty_stream

end Sys2Proof.Machine

/-! SUPPORT. The encoder and the decoder undo each other, and the reserved words (30_encoding.md R80, R83 to R87,
R93, R95). -/

namespace Sys2Proof

open Machine

theorem decodeCmd_cmdWord_pollCtrl (p d : U10) : decodeCmd (cmdWord 2 p d) = .ok (.pollCtrl p d) := by
  simp [decodeCmd]

theorem decodeCmd_cmdWord_ctrlEval (p d : U10) : decodeCmd (cmdWord 3 p d) = .ok (.ctrlEval p d) := by
  simp [decodeCmd]

theorem decodeCmd_cmdWord_pollGest (v : U10) : decodeCmd (cmdWord 6 0 v) = .ok (.pollGest v) := by
  simp [decodeCmd]

/-- Settles O1: an operation without operands has one fixed word, and the operands of the other three are the fields
of their word. -/
theorem decodingTheEncodedOperationGivesItBack : Obligations.DecodingTheEncodedOperationGivesItBack := by
  intro i
  cases i with
  | pollCtrl p d => exact decodeCmd_cmdWord_pollCtrl p d
  | ctrlEval p d => exact decodeCmd_cmdWord_ctrlEval p d
  | pollGest v => exact decodeCmd_cmdWord_pollGest v
  | _ => rfl

/-- A word is put together from its code and its two operand fields. -/
theorem cmdWord_eq_of_op {w : BitVec 24} {op : BitVec 4} (h : w.toNat / 1048576 = op.toNat) :
    cmdWord op (aField w) (bField w) = w := by
  have hop : op = opField w := BitVec.eq_of_toNat_eq (by rw [opField_toNat, h])
  rw [hop, cmdWord_fields]

theorem encode_of_decodeCmd_ok {w : BitVec 24} {i : Instr} (h : decodeCmd w = .ok i) : encode i = .cmd w := by
  rcases (decodeCmd_ok_iff w i).1 h with ⟨ha, hb, h⟩ | ⟨hop, rfl⟩ | ⟨hop, rfl⟩ | ⟨hop, ha, rfl⟩
  · have hbare : ∀ op : BitVec 4, w.toNat / 1048576 = op.toNat → FetchWord.cmd (cmdWord op 0 0) = .cmd w := by
      intro op hop
      have hw := cmdWord_eq_of_op hop
      rw [ha, hb] at hw
      rw [hw]
    rcases h with ⟨hop, rfl⟩ | ⟨hop, rfl⟩ | ⟨hop, rfl⟩ | ⟨hop, rfl⟩ | ⟨hop, rfl⟩ | ⟨hop, rfl⟩
    all_goals exact hbare _ hop
  · exact congrArg FetchWord.cmd (cmdWord_eq_of_op hop)
  · exact congrArg FetchWord.cmd (cmdWord_eq_of_op hop)
  · exact congrArg FetchWord.cmd (ha ▸ cmdWord_eq_of_op hop)

/-- A selector byte stands for a micro-operation only with bits 7:2 at 0 (R80; log 5). -/
theorem encode_of_decodeSelector_ok {b : U8} {i : Instr} (h : decodeSelector b = .ok i) :
    encode i = .selector b := by
  have hbyte : ∀ c : U8, b.toNat = c.toNat → FetchWord.selector c = .selector b :=
    fun c hc => congrArg FetchWord.selector (BitVec.eq_of_toNat_eq hc.symm)
  unfold decodeSelector at h
  split at h
  case h_5 => cases h
  all_goals
    injection h with h
    subst h
    exact hbyte _ ‹_›

/-- Settles O2: a decoded command word is its code and its fields put together, and a decoded selector byte is its
code. -/
theorem onlyTheEncodedWordDecodesToAnOperation : Obligations.OnlyTheEncodedWordDecodesToAnOperation := by
  intro w i h
  cases w with
  | cmd w => exact encode_of_decodeCmd_ok h
  | selector b => exact encode_of_decodeSelector_ok h

/-- The codes and operand fields of the command words that stand for an operation (R84). -/
theorem exists_decodeCmd_ok_iff (w : BitVec 24) : (∃ i, decodeCmd w = .ok i) ↔
    ((w.toNat / 1048576 ∈ [0, 1, 4, 5, 7, 15] ∧ w.toNat / 1024 % 1024 = 0 ∧ w.toNat % 1024 = 0) ∨
      w.toNat / 1048576 = 2 ∨ w.toNat / 1048576 = 3 ∨
      (w.toNat / 1048576 = 6 ∧ w.toNat / 1024 % 1024 = 0)) := by
  simp only [decodeCmd_ok_iff, aField_eq_zero_iff, bField_eq_zero_iff, exists_or, exists_and_left, exists_eq,
    and_true, List.mem_cons, List.not_mem_nil, or_false]
  tauto

theorem exists_error_iff_not_exists_ok {ε α : Type} (x : Except ε α) :
    (∃ e, x = .error e) ↔ ¬ ∃ a, x = .ok a := by
  cases x <;> simp

/-- Settles O5: the reserved command words are those no row accepts, and an issued word that decodes to nothing is
refused. -/
theorem reservedWordsAreExactlyTheRefusedOnes : Obligations.ReservedWordsAreExactlyTheRefusedOnes := by
  refine ⟨fun w => ?_, fun s w rest e hwf htorn hstream hdecode =>
    step_of_issue_error (nextMove_issue_between hwf htorn hstream) hdecode⟩
  have hlt := w.isLt
  rw [exists_error_iff_not_exists_ok, exists_decodeCmd_ok_iff]
  simp only [List.mem_cons, List.not_mem_nil, or_false]
  omega

/-- Settles O4: thirteen closed words, each decoded by computation. -/
theorem writtenOutWordsDecode : Obligations.WrittenOutWordsDecode := by
  refine ⟨rfl, rfl, rfl, rfl, rfl, rfl, rfl, rfl, rfl, rfl, rfl, rfl, rfl⟩

theorem readingOf_toNat (v : U10) : readingOf v.toNat = v := by simp [readingOf]

/-- Settles O6: a reading written as a number is read back, and the rest is the table of R95. -/
theorem pseudoInstructionsExpandAsListed : Obligations.PseudoInstructionsExpandAsListed := by
  intro n p d v
  refine ⟨rfl, rfl, ?_⟩
  rw [expandLine, readingOf_toNat, readingOf_toNat, readingOf_toNat]

end Sys2Proof

/-! SUPPORT. A poll's result, its new SHAPE and its events, for every state of the gesture machine
(42_gesture_detector.md R143 to R146). -/

namespace Sys2Proof.Machine

theorem gestStep_shape (v : U10) (s : State) : (gestStep v s).shape = s.shape := by rw [gestStep_eq]

/-- The byte of the next shape and its code are the same number modulo 4 (R145, R146). -/
theorem shapeCode_shapeNext (s : State) : shapeCode (shapeNext s).shape = BitVec.ofNat 2 (s.shape.toNat + 1) := by
  apply BitVec.eq_of_toNat_eq
  rw [shapeCode_toNat, BitVec.toNat_ofNat, shapeNext, State.setShape_shape, BitVec.toNat_ofNat]
  omega

/-- SHAPE.NEXT and FB on any result but none (R144). -/
theorem confirm_of_ne_none {result : Button} (h : result ≠ .none) (s : State) :
    confirm result s = { s with
      shape := BitVec.ofNat 8 ((s.shape.toNat + 1) % 4)
      events := s.events ++ [.feedback (BitVec.ofNat 2 (s.shape.toNat + 1))] } := by
  rw [confirm, if_neg h, shapeCode_shapeNext]
  rfl

theorem pollGest_of_result_ne_none {v : U10} {s : State} (h : gestResult v s ≠ .none) :
    pollGest v s = { gestStep v s with
      shape := BitVec.ofNat 8 ((s.shape.toNat + 1) % 4)
      events := s.events ++ [.feedback (BitVec.ofNat 2 (s.shape.toNat + 1)), .gesture (gestResult v s)] } := by
  rw [pollGest, confirm_of_ne_none h, gestStep_shape, gestStep_events]
  simp only [State.emit, List.append_assoc, List.cons_append, List.nil_append]

theorem pollGest_shape (v : U10) (s : State) :
    (pollGest v s).shape =
      if gestResult v s = .none then s.shape else BitVec.ofNat 8 ((s.shape.toNat + 1) % 4) := by
  split
  case isTrue h => rw [pollGest_of_result_none h, State.emit_shape, gestStep_shape]
  case isFalse h => rw [pollGest_of_result_ne_none h]

theorem pollGest_events (v : U10) (s : State) :
    (pollGest v s).events = s.events ++
      ((if gestResult v s = .none then [] else [.feedback (BitVec.ofNat 2 (s.shape.toNat + 1))]) ++
        [.gesture (gestResult v s)]) := by
  split
  case isTrue h => rw [pollGest_of_result_none h, State.emit_events, gestStep_events, h]; rfl
  case isFalse h => rw [pollGest_of_result_ne_none h]; rfl

end Sys2Proof.Machine

/-! SUPPORT. The invariant: it holds at reset, every operation keeps it, and so does every step (10_state.md R23,
20_memory.md R63, 41_control_mapper.md R127, R131, R132). -/

namespace Sys2Proof.Machine

theorem inv_resetWith {c : Config} (hwf : c.wf = true) : (State.resetWith c).Inv where
  config := hwf
  shapeBits := Nat.zero_lt_succ 3
  accumulator := Nat.zero_le 16383
  staged := nofun
  unstaged := fun _ => ⟨rfl, rfl, rfl⟩
  inside := nofun
  wholeInc1 := fun _ => .inl rfl
  wholeInc2 := fun _ => .inl rfl

theorem configT0_wf : configT0.wf = true := by decide

/-- Settles O51: at reset every register is 0, SMOOTH has not run and no publication is in progress. -/
theorem resetMeetsTheInvariant : Obligations.ResetMeetsTheInvariant :=
  ⟨fun _ => inv_resetWith, inv_resetWith configT0_wf⟩

/-- What the tick context and the environment write is not in the invariant. -/
theorem State.Inv.of_sameForegroundRegisters {s t : State} (h : s.Inv) (hsame : SameForegroundRegisters s t)
    (hcfg : t.cfg = s.cfg) : t.Inv := by
  obtain ⟨hinc1, hinc2, hshape, hacc, hinit, -, -, hstg1, hstg2, htorn⟩ := hsame
  constructor
  all_goals simp only [hcfg, hinc1, hinc2, hshape, hacc, hinit, hstg1, hstg2, htorn]
  exacts [h.config, h.shapeBits, h.accumulator, h.staged, h.unstaged, h.inside, h.wholeInc1, h.wholeInc2]

/-- With `ATOMIC16 = false` the invariant says nothing of the increments or of a publication in progress. -/
theorem State.Inv.of_bytewise {s : State} (h : s.Inv) (hbytes : s.cfg.atomic16 = false) (v : Voice) (x : U16)
    (left : Option ByteWrite) (answers : List Bool) (ctr : Nat) :
    State.Inv { s.setInc v x with tornWrite := left, choices := answers, freeCtr := ctr } where
  config := by simpa using h.config
  shapeBits := by simpa using h.shapeBits
  accumulator := by simpa using h.accumulator
  staged := by simpa using h.staged
  unstaged := by simpa using h.unstaged
  inside := by simp [hbytes]
  wholeInc1 := by simp [hbytes]
  wholeInc2 := by simp [hbytes]

/-- What CTRL.EVAL stages: an entry of NOTE_TABLE, the detuned increment of it, and an accumulator within R132. -/
theorem State.Inv.ctrlEval {s : State} (h : s.Inv) (p d : U10) : (ctrlEval p d s).Inv :=
  have hacc := ctrlEval_emaAcc_le p d h.accumulator
  have hnote : quant (smoothed (Machine.ctrlEval p d s)) < 73 := Nat.lt_succ_of_le (quant_le (smoothed_le hacc))
  { h with
    accumulator := hacc
    staged := fun _ => ⟨⟨⟨_, hnote⟩, baseIncrement_eq s.cfg hnote⟩, _, rescale_le s.cfg d, ctrlEval_stgInc2 p d s⟩
    unstaged := nofun }

/-- A whole write of a staging register leaves 0 there only if SMOOTH has not run. -/
theorem State.Inv.publishWhole {s : State} (h : s.Inv) (v : Voice) : (s.publishWhole v).Inv := by
  cases hinit : s.emaInit with
  | false =>
    obtain ⟨-, hstg1, hstg2⟩ := h.unstaged hinit
    cases v with
    | one => exact { h with wholeInc1 := fun _ => .inl hstg1 }
    | two => exact { h with wholeInc2 := fun _ => .inl hstg2 }
  | true =>
    obtain ⟨⟨k, hstg1⟩, d, hd, hstg2⟩ := h.staged hinit
    cases v with
    | one => exact { h with wholeInc1 := fun _ => .inr ⟨k, hstg1⟩ }
    | two => exact { h with wholeInc2 := fun _ => .inr ⟨k, d, hd, hstg1 ▸ hstg2⟩ }

/-- A publication is whole with `ATOMIC16 = true`; else it may tear the increment and leave a byte to be written. -/
theorem State.Inv.publish {s : State} (h : s.Inv) (v : Voice) : (s.publish v).Inv := by
  cases hatomic : s.cfg.atomic16 with
  | true => rw [publish_atomic hatomic]; exact h.publishWhole v
  | false =>
    obtain ⟨x, answers, ctr, left, e⟩ := publish_eq s v
    rw [e]
    exact h.of_bytewise hatomic v x left answers ctr

theorem State.Inv.publishSecondByte {s : State} (h : s.Inv) {b : ByteWrite} (hb : s.tornWrite = some b) :
    (s.publishSecondByte b).Inv :=
  have hbytes := h.inside (by rw [hb]; rfl)
  h.of_bytewise hbytes b.voice (replaceByte b.high (s.inc b.voice) (s.stg b.voice)) none _ _

/-- A confirmed gesture leaves SHAPE a remainder modulo 4 (R145); no other poll writes it. -/
theorem State.Inv.pollGest {s : State} (h : s.Inv) (v : U10) : (pollGest v s).Inv := by
  have hshape : (Machine.pollGest v s).shape.toNat < 4 := by
    rw [pollGest_shape]
    split
    case isTrue => exact h.shapeBits
    case isFalse => rw [BitVec.toNat_ofNat]; omega
  rw [pollGest_eq]
  exact { h with shapeBits := hshape }

theorem State.Inv.after {s : State} (h : s.Inv) (i : Instr) : (after i s).Inv := by
  cases i with
  | pollCtrl p d => exact ((h.ctrlEval p d).publishWhole .one).publishWhole .two
  | ctrlEval p d => exact h.ctrlEval p d
  | wrInc1 => exact h.publish .one
  | wrInc2 => exact h.publish .two
  | pollGest v => exact h.pollGest v
  | reset =>
    exact (inv_resetWith h.config).of_sameForegroundRegisters ⟨rfl, rfl, rfl, rfl, rfl, rfl, rfl, rfl, rfl, rfl⟩ rfl
  | _ => exact h.of_sameForegroundRegisters ⟨rfl, rfl, rfl, rfl, rfl, rfl, rfl, rfl, rfl, rfl⟩ rfl

end Sys2Proof.Machine

/-! SUPPORT. What a step starts from, and what every step and every run keep (20_memory.md R61, 60_exceptions.md
R180). -/

namespace Sys2Proof.Machine

/-- The second byte write starts from the state with at most an answer taken. -/
theorem nextMove_finishWrite_state {s u : State} {b : ByteWrite} (h : nextMove s = .finishWrite b u) :
    s.tornWrite = some b ∧ ∃ answers ctr, u = { s with choices := answers, freeCtr := ctr } := by
  obtain ⟨-, htorn, rfl | rfl⟩ := nextMove_finishWrite h
  · exact ⟨htorn, _, _, rfl⟩
  · exact ⟨htorn, _, _, afterChoice_eq s⟩

/-- An issued word is taken from the stream, and with it at most an answer. -/
theorem nextMove_issue_state {s u : State} {w : FetchWord} (h : nextMove s = .issue w u) :
    ∃ rest answers ctr, s.stream = w :: rest ∧
      u = { s with stream := rest, choices := answers, freeCtr := ctr } := by
  obtain ⟨-, rest, hstream, ⟨-, rfl⟩ | ⟨-, -, rfl⟩⟩ := nextMove_issue h
  · exact ⟨rest, s.choices, s.freeCtr, hstream, rfl⟩
  · exact ⟨rest, s.afterChoice.choices, s.afterChoice.freeCtr, hstream, by rw [afterChoice_eq]⟩

theorem nextMove_ne_reject {s : State} (hwf : s.cfg.wf = true) : nextMove s ≠ .reject := by
  unfold nextMove
  rw [if_pos hwf]
  split
  · unfold moveInsideWrite
    split
    · nofun
    · split
      · split <;> nofun
      · nofun
  · unfold moveBetweenSteps
    split <;> nofun

/-- Settles O52: a step is idle, the second byte write or an operation, each from a state that differs from the first
in the stream and the environment's answers alone, and none of the three breaks the invariant. -/
theorem everyStepKeepsTheInvariant : Obligations.EveryStepKeepsTheInvariant := by
  intro s t h hstep
  rcases step_next_cases hstep with ⟨-, rfl⟩ | ⟨b, u, hmove, rfl⟩ | ⟨w, u, i, hmove, -, rfl⟩
  · exact h
  · obtain ⟨htorn, answers, ctr, rfl⟩ := nextMove_finishWrite_state hmove
    have hstart : State.Inv { s with choices := answers, freeCtr := ctr } := { h with }
    exact hstart.publishSecondByte htorn
  · obtain ⟨rest, answers, ctr, -, rfl⟩ := nextMove_issue_state hmove
    have hstart : State.Inv { s with stream := rest, choices := answers, freeCtr := ctr } := { h with }
    exact hstart.after i

theorem publishSecondByte_cfg (s : State) (b : ByteWrite) : (s.publishSecondByte b).cfg = s.cfg :=
  State.setInc_cfg _ _ _

theorem publishSecondByte_stream (s : State) (b : ByteWrite) : (s.publishSecondByte b).stream = s.stream :=
  State.setInc_stream _ _ _

theorem publishSecondByte_events (s : State) (b : ByteWrite) : (s.publishSecondByte b).events = s.events :=
  State.setInc_events _ _ _

theorem step_cfg {s t : State} (h : step s = .next t) : t.cfg = s.cfg := by
  rcases step_next_cases h with ⟨-, rfl⟩ | ⟨b, u, hmove, rfl⟩ | ⟨w, u, i, hmove, -, rfl⟩
  · rfl
  · obtain ⟨-, answers, ctr, rfl⟩ := nextMove_finishWrite_state hmove
    rw [publishSecondByte_cfg]
  · obtain ⟨rest, answers, ctr, -, rfl⟩ := nextMove_issue_state hmove
    rw [after_cfg]

/-- Settles O55: no step changes a parameter or a table, so no run does. -/
theorem noRunChangesATable : Obligations.NoRunChangesATable := by
  intro k
  induction k with
  | zero => rintro s t ⟨⟩; rfl
  | succ k ih =>
    intro s t h
    obtain ⟨u, hstep, hrun⟩ := run_succ_next h
    rw [ih u t hrun, step_cfg hstep]

/-- A step takes at most the first word of the stream. -/
theorem step_stream_subset {s t : State} (h : step s = .next t) : t.stream ⊆ s.stream := by
  rcases step_next_cases h with ⟨-, rfl⟩ | ⟨b, u, hmove, rfl⟩ | ⟨w, u, i, hmove, -, rfl⟩
  · exact List.Subset.refl _
  · obtain ⟨-, answers, ctr, rfl⟩ := nextMove_finishWrite_state hmove
    rw [publishSecondByte_stream]
    exact List.Subset.refl _
  · obtain ⟨rest, answers, ctr, hstream, rfl⟩ := nextMove_issue_state hmove
    rw [after_stream, hstream]
    exact List.subset_cons_self _ _

theorem State.Safe.exists_step {s : State} (h : s.Safe) : ∃ t, step s = .next t := by
  obtain ⟨hwf, hwords⟩ := h
  cases hmove : nextMove s with
  | reject => exact absurd hmove (nextMove_ne_reject hwf)
  | idle => exact ⟨s, by simp only [step, hmove]⟩
  | finishWrite b u => exact ⟨u.publishSecondByte b, by simp only [step, hmove]⟩
  | issue w u =>
    obtain ⟨rest, answers, ctr, hstream, -⟩ := nextMove_issue_state hmove
    obtain ⟨i, hdecode⟩ := hwords w (by rw [hstream]; exact List.mem_cons_self)
    exact ⟨after i u, (step_of_issue_ok hmove hdecode).trans (exec_eq_after i u)⟩

theorem State.Safe.step {s t : State} (h : s.Safe) (hstep : step s = .next t) : t.Safe :=
  ⟨(congrArg Config.wf (step_cfg hstep)).trans h.1, fun w hw => h.2 w (step_stream_subset hstep hw)⟩

theorem State.Safe.exists_run {s : State} (h : s.Safe) (k : Nat) :
    ∃ t, Host.Core.run core k s = .next t ∧ t.Safe := by
  induction k generalizing s with
  | zero => exact ⟨s, rfl, h⟩
  | succ k ih =>
    obtain ⟨u, hstep⟩ := h.exists_step
    rw [run_succ hstep]
    exact ih (h.step hstep)

/-- Settles O53: every operation is a function on states, there is no fault to step to, and a safe state has a step,
which leads to a safe state. -/
theorem aSafeStreamNeverStops : Obligations.ASafeStreamNeverStops :=
  ⟨fun i s => ⟨after i s, exec_eq_after i s⟩, nofun, fun k _ h => h.exists_run k⟩

theorem pollGest_events_growth (v : U10) (s : State) :
    ∃ new, (pollGest v s).events = s.events ++ new ∧ new.length ≤ 2 := by
  refine ⟨_, pollGest_events v s, ?_⟩
  split <;> simp

theorem after_events_growth (i : Instr) (s : State) :
    ∃ new, (after i s).events = s.events ++ new ∧ new.length ≤ 2 := by
  have hnone : ∃ new : List Event, s.events = s.events ++ new ∧ new.length ≤ 2 :=
    ⟨[], (List.append_nil _).symm, Nat.zero_le 2⟩
  cases i with
  | tick => exact ⟨_, tick_events s, Nat.le_succ 1⟩
  | pollGest v => exact pollGest_events_growth v s
  | rdTicks => exact ⟨_, State.emit_events s _, Nat.le_succ 1⟩
  | wrInc1 => exact (publish_events s .one).symm ▸ hnone
  | wrInc2 => exact (publish_events s .two).symm ▸ hnone
  | _ => exact hnone

theorem step_events_growth {s t : State} (h : step s = .next t) :
    ∃ new, t.events = s.events ++ new ∧ new.length ≤ 2 := by
  rcases step_next_cases h with ⟨-, rfl⟩ | ⟨b, u, hmove, rfl⟩ | ⟨w, u, i, hmove, -, rfl⟩
  · exact ⟨[], (List.append_nil _).symm, Nat.zero_le 2⟩
  · obtain ⟨-, answers, ctr, rfl⟩ := nextMove_finishWrite_state hmove
    exact ⟨[], (publishSecondByte_events _ b).trans (List.append_nil _).symm, Nat.zero_le 2⟩
  · obtain ⟨rest, answers, ctr, -, rfl⟩ := nextMove_issue_state hmove
    exact after_events_growth i _

/-- Settles O56: each step appends at most two events, and appended events add up along the run. -/
theorem theObservationOnlyGrows : Obligations.TheObservationOnlyGrows := by
  intro k
  induction k with
  | zero => rintro s t ⟨⟩; exact ⟨[], (List.append_nil _).symm, Nat.le_refl 0⟩
  | succ k ih =>
    intro s t h
    obtain ⟨u, hstep, hrun⟩ := run_succ_next h
    obtain ⟨first, hfirst, hfirstLength⟩ := step_events_growth hstep
    obtain ⟨later, hlater, hlaterLength⟩ := ih u t hrun
    refine ⟨first ++ later, by rw [hlater, hfirst, List.append_assoc], ?_⟩
    rw [List.length_append]
    omega

end Sys2Proof.Machine

/-! SUPPORT. The owners of the registers (10_state.md R36), and RESET (70_reset_and_hazards.md R200). -/

namespace Sys2Proof.Machine

/-- Settles O22: the fields of the state RESET answers. -/
theorem resetSetsEveryRegister : Obligations.ResetSetsEveryRegister :=
  fun s => ⟨s.resetRegisters, rfl, rfl, rfl, rfl, rfl, rfl, rfl, rfl, rfl, rfl, rfl, rfl, rfl, rfl, rfl, rfl, rfl, rfl⟩

theorem sameTickRegisters_publish (s : State) (v : Voice) : SameTickRegisters s (s.publish v) := by
  obtain ⟨x, answers, ctr, left, e⟩ := publish_eq s v
  rw [e]
  exact ⟨State.setInc_phase1 s v x, State.setInc_phase2 s v x, State.setInc_ticks s v x, State.setInc_audioOut s v x⟩

theorem sameTickRegisters_pollGest (v : U10) (s : State) : SameTickRegisters s (pollGest v s) := by
  rw [pollGest_eq]
  exact ⟨rfl, rfl, rfl, rfl⟩

theorem sameTickRegisters_after {i : Instr} (htick : i ≠ .tick) (hreset : i ≠ .reset) (s : State) :
    SameTickRegisters s (after i s) := by
  cases i with
  | tick => exact absurd rfl htick
  | reset => exact absurd rfl hreset
  | wrInc1 => exact sameTickRegisters_publish s .one
  | wrInc2 => exact sameTickRegisters_publish s .two
  | pollGest v => exact sameTickRegisters_pollGest v s
  | _ => exact ⟨rfl, rfl, rfl, rfl⟩

theorem sameForegroundRegisters_after {i : Instr} (h : i.agent = .tick) (s : State) :
    SameForegroundRegisters s (after i s) := by
  cases i with
  | tick | waveSaw | waveSqr | waveTri | waveSin => exact ⟨rfl, rfl, rfl, rfl, rfl, rfl, rfl, rfl, rfl, rfl⟩
  | _ => cases h

theorem publish_gesture (s : State) (v : Voice) :
    (s.publish v).shape = s.shape ∧ (s.publish v).gPhase = s.gPhase ∧ (s.publish v).gPeak = s.gPeak := by
  obtain ⟨x, answers, ctr, left, e⟩ := publish_eq s v
  rw [e]
  exact ⟨State.setInc_shape s v x, State.setInc_gPhase s v x, State.setInc_gPeak s v x⟩

theorem publish_mapper (s : State) (v : Voice) :
    (s.publish v).emaAcc = s.emaAcc ∧ (s.publish v).emaInit = s.emaInit ∧
    (s.publish v).stgInc1 = s.stgInc1 ∧ (s.publish v).stgInc2 = s.stgInc2 := by
  obtain ⟨x, answers, ctr, left, e⟩ := publish_eq s v
  rw [e]
  exact ⟨State.setInc_emaAcc s v x, State.setInc_emaInit s v x, State.setInc_stgInc1 s v x, State.setInc_stgInc2 s v x⟩

theorem publish_one_inc2 (s : State) : (s.publish .one).inc2 = s.inc2 := by
  obtain ⟨x, answers, ctr, left, e⟩ := publish_eq s .one
  rw [e]
  rfl

theorem publish_two_inc1 (s : State) : (s.publish .two).inc1 = s.inc1 := by
  obtain ⟨x, answers, ctr, left, e⟩ := publish_eq s .two
  rw [e]
  rfl

theorem pollGest_incs (v : U10) (s : State) : (pollGest v s).inc1 = s.inc1 ∧ (pollGest v s).inc2 = s.inc2 := by
  rw [pollGest_eq]
  exact ⟨rfl, rfl⟩

theorem pollGest_mapper (v : U10) (s : State) :
    (pollGest v s).emaAcc = s.emaAcc ∧ (pollGest v s).emaInit = s.emaInit ∧
    (pollGest v s).stgInc1 = s.stgInc1 ∧ (pollGest v s).stgInc2 = s.stgInc2 := by
  rw [pollGest_eq]
  exact ⟨rfl, rfl, rfl, rfl⟩

theorem after_inc1_writers {i : Instr} {s : State} (hreset : i ≠ .reset) (h : (after i s).inc1 ≠ s.inc1) :
    i = .wrInc1 ∨ ∃ p d, i = .pollCtrl p d := by
  cases i with
  | reset => exact absurd rfl hreset
  | wrInc1 => exact .inl rfl
  | pollCtrl p d => exact .inr ⟨p, d, rfl⟩
  | wrInc2 => exact absurd (publish_two_inc1 s) h
  | pollGest v => exact absurd (pollGest_incs v s).1 h
  | _ => exact absurd rfl h

theorem after_inc2_writers {i : Instr} {s : State} (hreset : i ≠ .reset) (h : (after i s).inc2 ≠ s.inc2) :
    i = .wrInc2 ∨ ∃ p d, i = .pollCtrl p d := by
  cases i with
  | reset => exact absurd rfl hreset
  | wrInc2 => exact .inl rfl
  | pollCtrl p d => exact .inr ⟨p, d, rfl⟩
  | wrInc1 => exact absurd (publish_one_inc2 s) h
  | pollGest v => exact absurd (pollGest_incs v s).2 h
  | _ => exact absurd rfl h

theorem after_gesture_frame {i : Instr} (hreset : i ≠ .reset) (h : ∀ v, i ≠ .pollGest v) (s : State) :
    (after i s).shape = s.shape ∧ (after i s).gPhase = s.gPhase ∧ (after i s).gPeak = s.gPeak := by
  cases i with
  | reset => exact absurd rfl hreset
  | pollGest v => exact absurd rfl (h v)
  | wrInc1 => exact publish_gesture s .one
  | wrInc2 => exact publish_gesture s .two
  | _ => exact ⟨rfl, rfl, rfl⟩

theorem after_mapper_frame {i : Instr} (hreset : i ≠ .reset) (h : ¬ RunsSmooth i) (s : State) :
    (after i s).emaAcc = s.emaAcc ∧ (after i s).emaInit = s.emaInit ∧
    (after i s).stgInc1 = s.stgInc1 ∧ (after i s).stgInc2 = s.stgInc2 := by
  cases i with
  | reset => exact absurd rfl hreset
  | ctrlEval p d => exact absurd ⟨p, d, .inl rfl⟩ h
  | pollCtrl p d => exact absurd ⟨p, d, .inr rfl⟩ h
  | wrInc1 => exact publish_mapper s .one
  | wrInc2 => exact publish_mapper s .two
  | pollGest v => exact pollGest_mapper v s
  | _ => exact ⟨rfl, rfl, rfl, rfl⟩

/-- Settles O54: a register that changes names its writer, since every other operation keeps it. -/
theorem registersAreWrittenOnlyByTheirOwners : Obligations.RegistersAreWrittenOnlyByTheirOwners := by
  intro i s hreset
  refine ⟨after i s, exec_eq_after i s, fun hagent => ?_, fun hagent => sameForegroundRegisters_after hagent s,
    after_inc1_writers hreset, after_inc2_writers hreset, fun hchange => ?_, fun hchange => ?_, fun hchange => ?_⟩
  · exact sameTickRegisters_after (by rintro rfl; cases hagent) hreset s
  · by_contra hpoll
    obtain ⟨hshape, hphase, hpeak⟩ := after_gesture_frame hreset (not_exists.1 hpoll) s
    simp [hshape, hphase, hpeak] at hchange
  · by_contra hsmooth
    obtain ⟨hacc, hinit, hstg1, hstg2⟩ := after_mapper_frame hreset hsmooth s
    simp [hacc, hinit, hstg1, hstg2] at hchange
  · by_contra htick
    obtain ⟨hphase1, hphase2, hticks, haudio⟩ := sameTickRegisters_after htick hreset s
    simp [hphase1, hphase2, hticks, haudio] at hchange

end Sys2Proof.Machine

/-! SUPPORT. The waveform functions: their symmetry and duty, the micro-operations run by themselves, and the one a
TICK runs (40_oscillator.md R104 to R109, 30_encoding.md R80, R87). -/

namespace Sys2Proof.Machine

theorem eq_ofNat_of_toNat_eq {w : Nat} {x : BitVec w} {n : Nat} (h : x.toNat = n) : x = BitVec.ofNat w n :=
  (BitVec.toNat_eq_nat.1 h).2

theorem waveSaw_eq (p : U16) : waveSaw p = BitVec.ofNat 8 (p.toNat / 256) :=
  eq_ofNat_of_toNat_eq (waveSaw_toNat p)

/-- The high byte is above 127 exactly in the second half of the period. -/
theorem waveSqr_eq_of_half (p : U16) : waveSqr p = if 32768 ≤ p.toNat then 255 else 0 := by
  have hhalf : 127 < p.toNat / 256 ↔ 32768 ≤ p.toNat := by omega
  rw [waveSqr_eq]
  simp only [hhalf]

theorem waveSqr_eq_high_iff (p : U16) : waveSqr p = 255 ↔ 32768 ≤ p.toNat := by
  rw [waveSqr_eq_of_half]
  split <;> simp [*]

theorem waveSqr_eq_low_iff (p : U16) : waveSqr p = 0 ↔ p.toNat < 32768 := by
  rw [waveSqr_eq_of_half, ← not_le]
  split <;> simp [*]

theorem waveTri_eq (p : U16) :
    waveTri p = if p.toNat < 32768 then BitVec.ofNat 8 (p.toNat / 128)
      else BitVec.ofNat 8 (255 - (p.toNat - 32768) / 128) := by
  split
  case isTrue h => exact eq_ofNat_of_toNat_eq (waveTri_toNat_of_lt h)
  case isFalse h => exact eq_ofNat_of_toNat_eq (waveTri_toNat_of_ge (not_lt.1 h))

/-- The triangle is symmetric about the middle of the period. -/
theorem waveTri_reflect {p : U16} (h : p.toNat < 32768) : waveTri p = waveTri (65535 - p) := by
  have hreflect : (65535 - p).toNat = 65535 - p.toNat := by
    rw [BitVec.toNat_sub_of_le (BitVec.le_def.2 (Nat.le_of_lt_succ p.isLt))]
    rfl
  apply BitVec.eq_of_toNat_eq
  rw [waveTri_toNat_of_lt h, waveTri_toNat_of_ge (by omega), hreflect]
  omega

theorem waveSaw_add (p i : U16) : waveSaw (p + i) = BitVec.ofNat 8 ((p.toNat + i.toNat) / 256) := by
  apply BitVec.eq_of_toNat_eq
  rw [waveSaw_toNat, BitVec.toNat_add, BitVec.toNat_ofNat]
  omega

theorem phase_succ_toNat (p : U16) : (p + 1).toNat = (p.toNat + 1) % 65536 := BitVec.toNat_add p 1

/-- Of the 256 high bytes the upper half gives a high sample. -/
theorem waveSqr_duty :
    ((List.range 256).filter (fun h => waveSqr (BitVec.ofNat 16 (256 * h)) = 255)).length = 128 := by
  have hhigh : ∀ h ∈ List.range 256,
      decide (waveSqr (BitVec.ofNat 16 (256 * h)) = 255) = decide (128 ≤ h) := by
    intro h hmem
    have hlt : h < 256 := List.mem_range.1 hmem
    rw [decide_eq_decide, waveSqr_eq_high_iff, BitVec.toNat_ofNat]
    omega
  rw [List.filter_congr hhigh]
  rfl

/-- Settles O10: the sawtooth keeps the high byte of a sum, the triangle is its mirror image, and the square is high
exactly from 32768 on, so it rises at the one step onto 32768 and falls at the one step past 65535. -/
theorem waveformSymmetryDutyAndAdvance : Obligations.WaveformSymmetryDutyAndAdvance := by
  refine ⟨waveSaw_add, fun p => waveTri_reflect, waveSqr_duty, fun p => ?_, fun p => ?_⟩
  all_goals
    have hlt := p.isLt
    rw [waveSqr_eq_high_iff, waveSqr_eq_low_iff, phase_succ_toNat, ← BitVec.toNat_inj]
    simp only [BitVec.ofNat_eq_ofNat, BitVec.toNat_ofNat]
    omega

/-- Settles O11: a micro-operation stores its function's value at each phase as it stands. -/
theorem waveformMicroOperationsComplete : Obligations.WaveformMicroOperationsComplete := by
  intro s
  have h1 : s.phase1.toNat / 256 < 256 := Nat.div_lt_of_lt_mul s.phase1.isLt
  have h2 : s.phase2.toNat / 256 < 256 := Nat.div_lt_of_lt_mul s.phase2.isLt
  simp only [exec_eq_after, after, sampleVoices, State.setSamples]
  refine ⟨?_, ?_, ?_, h1, h2, ?_⟩
  · rw [waveSaw_eq, waveSaw_eq]
  · rw [waveSqr_eq_of_half, waveSqr_eq_of_half]
  · rw [waveTri_eq, waveTri_eq]
  · rw [waveSin_eq s.cfg s.phase1 h1, waveSin_eq s.cfg s.phase2 h2]

/-- The micro-operation a SHAPE byte decodes to samples both voices by the function that SHAPE[1:0] selects. -/
theorem decodeSelector_shape {shape : U8} (h : shape.toNat < 4) :
    ∃ i, decode (.selector shape) = .ok i ∧
      ∀ s : State, after i s = sampleVoices (waveGen s.cfg (shapeCode shape)) s := by
  have hcode : shape = BitVec.ofNat 8 shape.toNat := eq_ofNat_of_toNat_eq rfl
  generalize shape.toNat = code at h hcode
  subst hcode
  match code, h with
  | 0, _ => exact ⟨.waveSaw, rfl, fun _ => rfl⟩
  | 1, _ => exact ⟨.waveSqr, rfl, fun _ => rfl⟩
  | 2, _ => exact ⟨.waveTri, rfl, fun _ => rfl⟩
  | 3, _ => exact ⟨.waveSin, rfl, fun _ => rfl⟩

/-- Settles O13: TICK samples the advanced phases by the function that SHAPE[1:0] selects, and so does the
micro-operation the SHAPE byte decodes to. -/
theorem tickRunsTheMicroOperationShapeSelects : Obligations.TickRunsTheMicroOperationShapeSelects := by
  intro s hshape
  obtain ⟨i, hdecode, hafter⟩ := decodeSelector_shape hshape
  refine ⟨i, tick s, _, hdecode, exec_eq_after .tick s, exec_eq_after i _, ?_⟩
  rw [hafter]
  exact ⟨rfl, rfl, mix_toNat _ _⟩

end Sys2Proof.Machine

/-! SUPPORT. Any number of TICKs: the counter and the phases in closed form, the samples they emit, and what they read
(43_sample_tick.md R160, R164, R166, 40_oscillator.md R100, 20_memory.md R71). -/

namespace Sys2Proof.Machine

theorem runInstrs_append_of_next {is : List Instr} {s t : State} (h : runInstrs is s = .next t) (js : List Instr) :
    runInstrs (is ++ js) s = runInstrs js t := by
  rw [runInstrs_eq_foldl] at h
  injection h with h
  rw [runInstrs_append, h]

theorem runInstrs_replicate (i : Instr) (n : Nat) (s : State) :
    runInstrs (List.replicate n i) s = .next ((after i)^[n] s) := by
  induction n generalizing s with
  | zero => rfl
  | succ n ih => rw [List.replicate_succ, runInstrs_cons, ih, Function.iterate_succ_apply]

theorem runInstrs_ticks (n : Nat) (s : State) : runInstrs (List.replicate n .tick) s = .next (tick^[n] s) :=
  runInstrs_replicate .tick n s

theorem sameForegroundRegisters_iterate_tick (n : Nat) (s : State) :
    SameForegroundRegisters s (tick^[n] s) := by
  induction n with
  | zero => exact ⟨rfl, rfl, rfl, rfl, rfl, rfl, rfl, rfl, rfl, rfl⟩
  | succ n ih =>
    rw [Function.iterate_succ_apply']
    exact { ih with }

/-- What one TICK keeps, any number of TICKs keeps. -/
theorem iterate_tick_keeps {α : Type} {f : State → α} (h : ∀ s, f (tick s) = f s) (n : Nat) (s : State) :
    f (tick^[n] s) = f s := by
  induction n with
  | zero => rfl
  | succ n ih => rw [Function.iterate_succ_apply', h, ih]

theorem iterate_tick_cfg (n : Nat) (s : State) : (tick^[n] s).cfg = s.cfg :=
  iterate_tick_keeps (f := State.cfg) (fun _ => rfl) n s

theorem iterate_tick_stream (n : Nat) (s : State) : (tick^[n] s).stream = s.stream :=
  iterate_tick_keeps (f := State.stream) (fun _ => rfl) n s

theorem iterate_tick_choices (n : Nat) (s : State) : (tick^[n] s).choices = s.choices :=
  iterate_tick_keeps (f := State.choices) (fun _ => rfl) n s

theorem iterate_tick_inc (n : Nat) (s : State) (v : Voice) : (tick^[n] s).inc v = s.inc v :=
  iterate_tick_keeps (f := fun t => t.inc v) (fun t => tick_inc t v) n s

theorem iterate_tick_stg (n : Nat) (s : State) (v : Voice) : (tick^[n] s).stg v = s.stg v :=
  iterate_tick_keeps (f := fun t => t.stg v) (fun t => tick_stg t v) n s

theorem iterate_tick_phase (n : Nat) (s : State) (v : Voice) :
    (tick^[n] s).phase v = BitVec.ofNat 16 ((s.phase v).toNat + n * (s.inc v).toNat) := by
  induction n with
  | zero => exact eq_ofNat_of_toNat_eq (by rw [Nat.zero_mul]; rfl)
  | succ n ih =>
    apply BitVec.eq_of_toNat_eq
    rw [Function.iterate_succ_apply', tick_phase, ih, iterate_tick_inc, BitVec.toNat_add, BitVec.toNat_ofNat,
      BitVec.toNat_ofNat, Nat.mod_add_mod, Nat.succ_mul, Nat.add_assoc]

theorem iterate_tick_ticks (n : Nat) (s : State) : (tick^[n] s).ticks = BitVec.ofNat 16 (s.ticks.toNat + n) := by
  induction n with
  | zero => exact eq_ofNat_of_toNat_eq rfl
  | succ n ih =>
    apply BitVec.eq_of_toNat_eq
    rw [Function.iterate_succ_apply', tick_ticks, ih, BitVec.toNat_add, BitVec.toNat_ofNat, BitVec.toNat_ofNat]
    exact Nat.mod_add_mod _ _ _

/-- The mixed sample `k` increments after the phases of `s`, the increments and the shape constant (R100, R103,
R108). -/
def mixedSample (s : State) (k : Nat) : U8 :=
  mix (waveGen s.cfg (shapeCode s.shape) (BitVec.ofNat 16 (s.phase1.toNat + k * s.inc1.toNat)))
    (waveGen s.cfg (shapeCode s.shape) (BitVec.ofNat 16 (s.phase2.toNat + k * s.inc2.toNat)))

theorem iterate_tick_succ_audioOut (n : Nat) (s : State) : (tick^[n + 1] s).audioOut = mixedSample s (n + 1) := by
  have hphase1 : (tick^[n + 1] s).phase1 = _ := iterate_tick_phase (n + 1) s .one
  have hphase2 : (tick^[n + 1] s).phase2 = _ := iterate_tick_phase (n + 1) s .two
  rw [Function.iterate_succ_apply'] at hphase1 hphase2 ⊢
  obtain ⟨hsample1, hsample2⟩ := tick_samples (tick^[n] s)
  rw [tick_audioOut, hsample1, hsample2, hphase1, hphase2, iterate_tick_cfg,
    (sameForegroundRegisters_iterate_tick n s).shape]
  rfl

theorem audioValues_iterate_tick (n : Nat) (s : State) : audioValues (tick^[n] s).events =
    audioValues s.events ++ (List.range n).map (fun k => mixedSample s (k + 1)) := by
  induction n with
  | zero => exact (List.append_nil _).symm
  | succ n ih =>
    rw [Function.iterate_succ_apply', audioValues_tick, ← Function.iterate_succ_apply' tick,
      iterate_tick_succ_audioOut, ih, List.range_succ, List.map_append, List.append_assoc]
    rfl

/-- Settles O14: the closed forms of the counter and the phases, and one sample for each TICK. -/
theorem ticksAccumulateModulo65536 : Obligations.TicksAccumulateModulo65536 := by
  intro n s
  have hphase1 : (tick^[n] s).phase1 = _ := iterate_tick_phase n s .one
  have hphase2 : (tick^[n] s).phase2 = _ := iterate_tick_phase n s .two
  refine ⟨tick^[n] s, runInstrs_ticks n s, ?_, ?_, ?_, ?_, sameForegroundRegisters_iterate_tick n s,
    iterate_tick_cfg n s⟩
  · rw [iterate_tick_ticks, BitVec.toNat_ofNat]
  · rw [hphase1, BitVec.toNat_ofNat]; rfl
  · rw [hphase2, BitVec.toNat_ofNat]; rfl
  · rw [audioValues_iterate_tick, List.length_append, List.length_map, List.length_range]

/-- A TICK word at the head of the stream is a TICK on the state without it. -/
theorem step_tick_word {s : State} {rest : List FetchWord} (hwf : s.cfg.wf = true) (htorn : s.tornWrite = none)
    (hstream : s.stream = .cmd 0x100000 :: rest) : step s = .next (tick { s with stream := rest }) :=
  (step_of_issue_ok (nextMove_issue_between hwf htorn hstream) (i := .tick) rfl).trans (exec_eq_after .tick _)

/-- TICK neither reads nor writes the stream, so the words may be taken all at once. -/
theorem run_tick_words {s : State} {n : Nat} {rest : List FetchWord} (hwf : s.cfg.wf = true)
    (htorn : s.tornWrite = none) (hstream : s.stream = List.replicate n (.cmd 0x100000) ++ rest) :
    Host.Core.run core n s = .next (tick^[n] { s with stream := rest }) := by
  induction n generalizing s with
  | zero => rw [show rest = s.stream from hstream.symm]; rfl
  | succ n ih =>
    rw [run_succ (step_tick_word hwf htorn hstream)]
    exact ih hwf htorn rfl

/-- Settles O15: the steps are as many TICKs on the state with the words taken, whose closed forms are those asked
for. -/
theorem steppedTicksPlayThePhaseAccumulatorWaveform : Obligations.SteppedTicksPlayThePhaseAccumulatorWaveform :=
  fun n _ _ hwf htorn hstream =>
    ⟨_, run_tick_words hwf htorn hstream, iterate_tick_stream n _, iterate_tick_ticks n _, iterate_tick_phase n _ .one,
      iterate_tick_phase n _ .two, audioValues_iterate_tick n _⟩

theorem mixedSample_of_zero {s : State} (hphase1 : s.phase1 = 0) (hphase2 : s.phase2 = 0) (hinc1 : s.inc1 = 0)
    (hinc2 : s.inc2 = 0) (k : Nat) : mixedSample s k = waveGen s.cfg (shapeCode s.shape) 0 := by
  have hzero : BitVec.ofNat 16 ((0 : U16).toNat + k * (0 : U16).toNat) = 0 := by simp
  rw [mixedSample, hphase1, hphase2, hinc1, hinc2, hzero, mix_self]

/-- Settles O16: with phases and increments 0 both voices stay at phase 0, and the mean of equal samples is the
sample. -/
theorem silenceBeforeTheFirstPublication : Obligations.SilenceBeforeTheFirstPublication := by
  intro n s hphase1 hphase2 hinc1 hinc2
  refine ⟨tick^[n] s, runInstrs_ticks n s, ?_⟩
  rw [audioValues_iterate_tick]
  simp only [mixedSample_of_zero hphase1 hphase2 hinc1 hinc2, List.map_const', List.length_range]

theorem waveGen_congr {c c' : Config} (h : c'.sineTable = c.sineTable) (shape : BitVec 2) (p : U16) :
    waveGen c' shape p = waveGen c shape p := by
  unfold waveGen
  split
  case h_4 => rw [waveSin, waveSin, readSine, readSine, h]
  all_goals rfl

theorem SameTickInputs.mixedSample {s s' : State} (h : SameTickInputs s s') (k : Nat) :
    mixedSample s' k = Machine.mixedSample s k := by
  rw [Machine.mixedSample, Machine.mixedSample, h.phase1, h.phase2, h.inc1, h.inc2, h.shape,
    waveGen_congr h.sineTable, waveGen_congr h.sineTable]

theorem SameTickInputs.tick {s s' : State} (h : SameTickInputs s s') : SameTickInputs (tick s) (tick s') where
  phase1 := congrArg₂ (· + ·) h.phase1 h.inc1
  phase2 := congrArg₂ (· + ·) h.phase2 h.inc2
  inc1 := h.inc1
  inc2 := h.inc2
  shape := h.shape
  ticks := congrArg (· + 1) h.ticks
  sineTable := h.sineTable

theorem SameTickInputs.iterate_tick {s s' : State} (h : SameTickInputs s s') (n : Nat) :
    SameTickInputs (Machine.tick^[n] s) (Machine.tick^[n] s') := by
  induction n with
  | zero => exact h
  | succ n ih => rw [Function.iterate_succ_apply', Function.iterate_succ_apply']; exact ih.tick

/-- Settles O17: the samples are a function of what TICK reads, and TICK's writes keep the agreement. -/
theorem audioDependsOnlyOnWhatTickReads : Obligations.AudioDependsOnlyOnWhatTickReads := by
  intro n s s' h
  refine ⟨tick^[n] s, tick^[n] s', (List.range n).map (fun k => mixedSample s (k + 1)), runInstrs_ticks n s,
    runInstrs_ticks n s', h.iterate_tick n, ?_, audioValues_iterate_tick n s, ?_⟩
  · rw [List.length_map, List.length_range]
  · simp only [audioValues_iterate_tick, h.mixedSample]

theorem tickCounts_emit (s : State) (e : Event) :
    tickCounts (s.emit e).events = tickCounts s.events ++ tickCounts [e] := tickCounts_append _ _

theorem tickCounts_tick (s : State) : tickCounts (tick s).events = tickCounts s.events :=
  (tickCounts_append _ _).trans (List.append_nil _)

theorem tickCounts_iterate_tick (n : Nat) (s : State) : tickCounts (tick^[n] s).events = tickCounts s.events :=
  iterate_tick_keeps (f := fun t => tickCounts t.events) tickCounts_tick n s

theorem elapsedTicks_of_add {n : Nat} (hn : n < 65536) (t : U16) :
    elapsedTicks t (BitVec.ofNat 16 (t.toNat + n)) = n := by
  have hlt := t.isLt
  rw [elapsedTicks, BitVec.toNat_ofNat]
  omega

theorem runInstrs_rdTicks_around_ticks (n : Nat) (s : State) :
    runInstrs (.rdTicks :: (List.replicate n .tick ++ [.rdTicks])) s =
      .next ((tick^[n] (s.emit (.tickCount s.ticks))).emit (.tickCount (BitVec.ofNat 16 (s.ticks.toNat + n)))) := by
  rw [runInstrs_cons, after, runInstrs_append_of_next (runInstrs_ticks n _), runInstrs_cons, runInstrs_nil, after,
    iterate_tick_ticks, State.emit_ticks]

/-- Settles O20: the second read is the first plus n modulo 65536, and TICKs return no reads of their own. -/
theorem elapsedTicksAreExactAcrossTheWrap : Obligations.ElapsedTicksAreExactAcrossTheWrap := by
  intro n s hn
  refine ⟨_, _, _, runInstrs_rdTicks_around_ticks n s, ?_, elapsedTicks_of_add hn s.ticks⟩
  rw [tickCounts_emit, tickCounts_iterate_tick, tickCounts_emit, List.append_assoc]
  rfl

/-- Settles O39: CTRL.EVAL commutes with one TICK, so with any number of them. -/
theorem ticksCommuteWithCtrlEval : Obligations.TicksCommuteWithCtrlEval := by
  intro n p d s
  have hcommute : ctrlEval p d (tick^[n] s) = tick^[n] (ctrlEval p d s) :=
    Function.Semiconj.iterate_right (ctrlEval_tick p d) n s
  rw [runInstrs_append_of_next (runInstrs_ticks n s), runInstrs_cons, runInstrs_nil, runInstrs_cons, runInstrs_ticks,
    after, after, hcommute]

end Sys2Proof.Machine

/-! SUPPORT. Publications: the increment of a voice under a write, the two byte writes, TICKs between them, and
POLL.CTRL (20_memory.md R63, R70, 41_control_mapper.md R128 to R130). -/

namespace Sys2Proof.Machine

theorem setInc_inc_same (s : State) (v : Voice) (x : U16) : (s.setInc v x).inc v = x := by cases v <;> rfl

theorem setInc_inc_other (s : State) {u v : Voice} (h : u ≠ v) (x : U16) : (s.setInc v x).inc u = s.inc u := by
  match u, v, h with
  | .one, .two, _ => rfl
  | .two, .one, _ => rfl
  | .one, .one, h => exact absurd rfl h
  | .two, .two, h => exact absurd rfl h

theorem setInc_phase (s : State) (v u : Voice) (x : U16) : (s.setInc v x).phase u = s.phase u := by
  cases v <;> rfl

theorem setInc_stg (s : State) (v u : Voice) (x : U16) : (s.setInc v x).stg u = s.stg u := by cases v <;> rfl

/-- A byte write takes byte 1 or byte 0 from the new value. -/
theorem replaceByte_toNat (high : Bool) (old new : U16) : (replaceByte high old new).toNat =
    if high then new.toNat / 256 * 256 + old.toNat % 256 else old.toNat / 256 * 256 + new.toNat % 256 := by
  cases high with
  | true => exact replaceByte_high old new
  | false => exact replaceByte_low old new

/-- The first byte write with the answer as it is taken. -/
theorem publishFirstByte_eq (s : State) (v : Voice) :
    s.publishFirstByte v = { s.setInc v (replaceByte s.choice (s.inc v) (s.stg v)) with
      tornWrite := some ⟨v, !s.choice⟩
      choices := s.afterChoice.choices
      freeCtr := s.afterChoice.freeCtr } := by
  unfold State.publishFirstByte
  rw [afterChoice_eq]
  cases v <;> rfl

/-- Whichever byte is written first, the other one is left. -/
theorem publishFirstByte_byte (s : State) (v : Voice) :
    (((s.publishFirstByte v).inc v).toNat = (s.inc v).toNat / 256 * 256 + (s.stg v).toNat % 256 ∧
      (s.publishFirstByte v).tornWrite = some ⟨v, true⟩) ∨
    (((s.publishFirstByte v).inc v).toNat = (s.stg v).toNat / 256 * 256 + (s.inc v).toNat % 256 ∧
      (s.publishFirstByte v).tornWrite = some ⟨v, false⟩) := by
  have hinc : (s.publishFirstByte v).inc v = replaceByte s.choice (s.inc v) (s.stg v) := by
    rw [publishFirstByte_eq]
    exact setInc_inc_same s v _
  have htorn : (s.publishFirstByte v).tornWrite = some ⟨v, !s.choice⟩ := by rw [publishFirstByte_eq]
  rw [hinc, htorn]
  cases s.choice with
  | false => exact .inl ⟨replaceByte_low _ _, rfl⟩
  | true => exact .inr ⟨replaceByte_high _ _, rfl⟩

theorem publishFirstByte_answer {s : State} {b : Bool} {rest : List Bool} (h : s.choices = b :: rest) (v : Voice) :
    (s.publishFirstByte v).tornWrite = some ⟨v, !b⟩ ∧ (s.publishFirstByte v).choices = rest := by
  rw [publishFirstByte_answered h]
  exact ⟨rfl, rfl⟩

/-- Settles O34: with `ATOMIC16 = false` each of the two operations is the first byte write of its voice. -/
theorem bytewisePublicationWritesOneByteFirst : Obligations.BytewisePublicationWritesOneByteFirst := by
  intro s hbytes
  have hexec1 : exec .wrInc1 s = .next (s.publishFirstByte .one) :=
    congrArg Host.Outcome.next (publish_bytewise hbytes .one)
  have hexec2 : exec .wrInc2 s = .next (s.publishFirstByte .two) :=
    congrArg Host.Outcome.next (publish_bytewise hbytes .two)
  refine ⟨⟨_, hexec1, publishFirstByte_byte s .one, fun _ _ h => publishFirstByte_answer h .one, ?_⟩,
    _, hexec2, publishFirstByte_byte s .two, fun _ _ h => publishFirstByte_answer h .two, ?_⟩
  · rw [publishFirstByte_eq]; rfl
  · rw [publishFirstByte_eq]; rfl

theorem publishSecondByte_inc_same (s : State) (v : Voice) (high : Bool) :
    (s.publishSecondByte ⟨v, high⟩).inc v = replaceByte high (s.inc v) (s.stg v) := setInc_inc_same s v _

theorem publishSecondByte_inc_other (s : State) {u v : Voice} (h : u ≠ v) (high : Bool) :
    (s.publishSecondByte ⟨v, high⟩).inc u = s.inc u := setInc_inc_other s h _

theorem publishSecondByte_phase (s : State) (b : ByteWrite) (u : Voice) :
    (s.publishSecondByte b).phase u = s.phase u := setInc_phase s b.voice u _

theorem publishSecondByte_choices (s : State) (b : ByteWrite) : (s.publishSecondByte b).choices = s.choices :=
  State.setInc_choices _ _ _

theorem publishSecondByte_frame (s : State) (b : ByteWrite) :
    s.publishSecondByte b = { s with
      inc1 := (s.publishSecondByte b).inc1, inc2 := (s.publishSecondByte b).inc2, tornWrite := none } := by
  obtain ⟨v, high⟩ := b
  cases v <;> rfl

/-- Settles O35: with nothing to preempt it the step is the second byte write, which takes one byte from the staging
register. -/
theorem secondByteWriteIsAStepOfItsOwn : Obligations.SecondByteWriteIsAStepOfItsOwn := by
  intro s b hwf htorn hnext
  have hwait : ∀ w rest, s.stream = w :: rest → mayPreempt w = false := fun w rest hstream =>
    (mayPreempt_eq_false_iff w).2 fun i hdecode => hnext w rest i hstream hdecode
  refine ⟨_, step_second_byte hwf htorn hwait, ?_, ?_, ?_, ?_, publishSecondByte_frame s b⟩
  · rintro rfl
    exact ⟨(congrArg BitVec.toNat (publishSecondByte_inc_same s .one true)).trans (replaceByte_high _ _), rfl⟩
  · rintro rfl
    exact ⟨(congrArg BitVec.toNat (publishSecondByte_inc_same s .one false)).trans (replaceByte_low _ _), rfl⟩
  · rintro rfl
    exact ⟨(congrArg BitVec.toNat (publishSecondByte_inc_same s .two true)).trans (replaceByte_high _ _), rfl⟩
  · rintro rfl
    exact ⟨(congrArg BitVec.toNat (publishSecondByte_inc_same s .two false)).trans (replaceByte_low _ _), rfl⟩

/-- The operation that publishes a voice's increment. -/
def publication : Voice → Instr
  | .one => .wrInc1
  | .two => .wrInc2

theorem after_publication (v : Voice) (s : State) : after (publication v) s = s.publish v := by cases v <;> rfl

/-- Inside a publication the environment's answer decides whether a TICK word goes first (log 10). -/
theorem nextMove_inside_tick_word {s : State} {b : ByteWrite} {rest : List FetchWord} {go : Bool} {later : List Bool}
    (hwf : s.cfg.wf = true) (htorn : s.tornWrite = some b) (hstream : s.stream = .cmd 0x100000 :: rest)
    (hanswer : s.choices = go :: later) : nextMove s =
      if go then .issue (.cmd 0x100000) { s with stream := rest, choices := later }
      else .finishWrite b { s with choices := later } := by
  obtain ⟨hchoice, hafter⟩ := choice_cons hanswer
  have htick : mayPreempt (.cmd 0x100000) = true := rfl
  simp only [nextMove, hwf, htorn, moveInsideWrite, hstream, htick, hchoice, hafter, if_true]

theorem step_tick_inside {s : State} {b : ByteWrite} {rest : List FetchWord} {later : List Bool}
    (hwf : s.cfg.wf = true) (htorn : s.tornWrite = some b) (hstream : s.stream = .cmd 0x100000 :: rest)
    (hanswer : s.choices = true :: later) :
    step s = .next (tick { s with stream := rest, choices := later }) :=
  (step_of_issue_ok (nextMove_inside_tick_word hwf htorn hstream hanswer) (i := .tick) rfl).trans
    (exec_eq_after .tick _)

theorem step_second_byte_before_tick {s : State} {b : ByteWrite} {rest : List FetchWord} {later : List Bool}
    (hwf : s.cfg.wf = true) (htorn : s.tornWrite = some b) (hstream : s.stream = .cmd 0x100000 :: rest)
    (hanswer : s.choices = false :: later) :
    step s = .next (State.publishSecondByte { s with choices := later } b) := by
  have hmove : nextMove s = .finishWrite b { s with choices := later } :=
    nextMove_inside_tick_word hwf htorn hstream hanswer
  simp only [step, hmove]

/-- TICK neither reads nor writes the stream and the answers, so the words and the answers may be taken all at once. -/
theorem run_ticks_inside {s : State} {b : ByteWrite} {n : Nat} {rest : List FetchWord} {later : List Bool}
    (hwf : s.cfg.wf = true) (htorn : s.tornWrite = some b)
    (hstream : s.stream = List.replicate n (.cmd 0x100000) ++ rest)
    (hanswers : s.choices = List.replicate n true ++ later) :
    Host.Core.run core n s = .next (tick^[n] { s with stream := rest, choices := later }) := by
  induction n generalizing s with
  | zero => rw [show rest = s.stream from hstream.symm, show later = s.choices from hanswers.symm]; rfl
  | succ n ih =>
    rw [run_succ (step_tick_inside hwf htorn hstream hanswers)]
    exact ih hwf htorn rfl rfl

/-- The state once the first byte of a publication is written and its word and its answer are taken. -/
def State.halfPublished (s : State) (v : Voice) (high : Bool) (stream : List FetchWord) (answers : List Bool) :
    State :=
  { s.setInc v (replaceByte high (s.inc v) (s.stg v)) with
    tornWrite := some ⟨v, !high⟩, stream := stream, choices := answers }

section
variable (s : State) (v u : Voice) (high : Bool) (stream : List FetchWord) (answers : List Bool)

theorem halfPublished_cfg : (s.halfPublished v high stream answers).cfg = s.cfg := State.setInc_cfg s v _

theorem halfPublished_events : (s.halfPublished v high stream answers).events = s.events :=
  State.setInc_events s v _

theorem halfPublished_phase : (s.halfPublished v high stream answers).phase u = s.phase u := setInc_phase s v u _

theorem halfPublished_stg : (s.halfPublished v high stream answers).stg u = s.stg u := setInc_stg s v u _

theorem halfPublished_inc_same :
    (s.halfPublished v high stream answers).inc v = replaceByte high (s.inc v) (s.stg v) := setInc_inc_same s v _

theorem halfPublished_inc_other {u v : Voice} (h : u ≠ v) :
    (s.halfPublished v high stream answers).inc u = s.inc u := setInc_inc_other s h _

end

theorem step_publication {s : State} {v : Voice} {high : Bool} {rest : List FetchWord} {answers : List Bool}
    (hwf : s.cfg.wf = true) (hbytes : s.cfg.atomic16 = false) (htorn : s.tornWrite = none)
    (hstream : s.stream = encode (publication v) :: rest) (hanswer : s.choices = high :: answers) :
    step s = .next (s.halfPublished v high rest answers) := by
  have hexec : exec (publication v) { s with stream := rest } =
      .next (State.publishFirstByte { s with stream := rest } v) := by
    rw [exec_eq_after, after_publication]
    exact congrArg Host.Outcome.next (publish_bytewise (s := { s with stream := rest }) hbytes v)
  rw [step_of_issue_ok (nextMove_issue_between hwf htorn hstream) (decodingTheEncodedOperationGivesItBack _), hexec,
    publishFirstByte_answered (s := { s with stream := rest }) hanswer]
  cases v <;> rfl

theorem iterate_tick_with_choices (n : Nat) (s : State) (answers : List Bool) :
    { tick^[n] s with choices := answers } = tick^[n] { s with choices := answers } := by
  have hcommute : Function.Semiconj (fun t : State => { t with choices := answers }) tick tick := fun _ => rfl
  exact hcommute.iterate_right n s

/-- A publication, n TICKs between its byte writes, and the second byte write before the next TICK. -/
theorem run_torn_publication {s : State} {n : Nat} {v : Voice} {high : Bool} {rest : List FetchWord}
    {later : List Bool} (hwf : s.cfg.wf = true) (hbytes : s.cfg.atomic16 = false) (htorn : s.tornWrite = none)
    (hstream : s.stream = encode (publication v) :: (List.replicate n (.cmd 0x100000) ++ .cmd 0x100000 :: rest))
    (hanswers : s.choices = high :: (List.replicate n true ++ false :: later)) :
    Host.Core.run core (n + 2) s = .next (State.publishSecondByte
      (tick^[n] (s.halfPublished v high (.cmd 0x100000 :: rest) later)) ⟨v, !high⟩) := by
  have hwf' : ∀ stream answers, (s.halfPublished v high stream answers).cfg.wf = true := fun _ _ =>
    (congrArg Config.wf (halfPublished_cfg s v high _ _)).trans hwf
  have hticks : Host.Core.run core n (s.halfPublished v high _ _) =
      .next (tick^[n] (s.halfPublished v high (.cmd 0x100000 :: rest) (false :: later))) :=
    run_ticks_inside (hwf' _ _) rfl rfl rfl
  have hlast := step_second_byte_before_tick (b := ⟨v, !high⟩) (rest := rest) (later := later)
    (s := tick^[n] (s.halfPublished v high (.cmd 0x100000 :: rest) (false :: later)))
    ((congrArg Config.wf (iterate_tick_cfg n _)).trans (hwf' _ _))
    (iterate_tick_keeps (f := State.tornWrite) (fun _ => rfl) n _) (iterate_tick_stream n _) (iterate_tick_choices n _)
  rw [run_succ (step_publication hwf hbytes htorn hstream hanswers), run_snoc hticks hlast, iterate_tick_with_choices]
  rfl

/-- Settles O36: between the byte writes each TICK adds the torn increment, and the second byte write makes the
increment whole without touching the phase. -/
theorem ticksInsideAPublicationUseTheTornIncrement : Obligations.TicksInsideAPublicationUseTheTornIncrement := by
  intro n s v high rest later hwf hbytes htorn hstream hanswers
  have hword : s.stream = encode (publication v) :: (List.replicate n (.cmd 0x100000) ++ .cmd 0x100000 :: rest) := by
    rw [hstream]
    cases v <;> rfl
  refine ⟨_, _, run_torn_publication hwf hbytes htorn hword hanswers, rfl, ?_, ?_, fun u hu => ⟨?_, ?_⟩, rfl, ?_, ?_,
    ?_⟩
  · rw [publishSecondByte_phase, iterate_tick_phase, halfPublished_phase, halfPublished_inc_same, replaceByte_toNat,
      BitVec.toNat_ofNat]
  · rw [publishSecondByte_inc_same, iterate_tick_inc, iterate_tick_stg, halfPublished_inc_same, halfPublished_stg,
      replaceByte_both]
  · rw [publishSecondByte_phase, iterate_tick_phase, halfPublished_phase, halfPublished_inc_other s high _ _ hu,
      BitVec.toNat_ofNat]
  · rw [publishSecondByte_inc_other _ hu, iterate_tick_inc, halfPublished_inc_other s high _ _ hu]
  · rw [publishSecondByte_stream, iterate_tick_stream]
    rfl
  · rw [publishSecondByte_choices, iterate_tick_choices]
    rfl
  · rw [publishSecondByte_events, audioValues_iterate_tick, halfPublished_events, List.length_append, List.length_map,
      List.length_range]

/-- Settles O38: POLL.CTRL is defined as CTRL.EVAL and two whole publications, which with `ATOMIC16 = true` are what
the two write operations do. -/
theorem pollCtrlIsTheThreeStepsWithNoTickBetween : Obligations.PollCtrlIsTheThreeStepsWithNoTickBetween := by
  intro p d s
  refine ⟨⟨_, _, exec_eq_after _ _, exec_eq_after _ _, rfl⟩, fun hatomic => ?_⟩
  have heval : (ctrlEval p d s).cfg.atomic16 = true := hatomic
  have hwrite : ((ctrlEval p d s).setInc .one (ctrlEval p d s).stgInc1).cfg.atomic16 = true := hatomic
  rw [runInstrs_cons, runInstrs_cons, runInstrs_cons, runInstrs_nil, after, after, after, publish_atomic heval,
    State.stg_one, publish_atomic hwrite]
  rfl

end Sys2Proof.Machine

/-! SUPPORT. The detune curve: DET.INTERP between two knots, its monotony and bound, and the staged increments under
the default tables (41_control_mapper.md R124, R131). -/

namespace Sys2Proof.Machine

theorem curveRises_of_wf {c : Config} (hwf : c.wf = true) : c.curveRises = true :=
  (curveRises_iff c).2 fun k => curve_rises hwf k.isLt

theorem knot_le_next {c : Config} (hrise : c.curveRises = true) {k : Nat} (hk : k < 32) :
    c.detuneCurve[k].toNat ≤ c.detuneCurve[k + 1].toNat := (curveRises_iff c).1 hrise ⟨k, hk⟩

theorem knot_le_last {c : Config} (hrise : c.curveRises = true) {k : Nat} (hk : k ≤ 32) :
    c.detuneCurve[k].toNat ≤ c.detuneCurve[32].toNat := by
  induction hk using Nat.decreasingInduction with
  | self => exact Nat.le_refl _
  | of_succ j hj ih => exact (knot_le_next hrise hj).trans ih

/-- Between knot k and the next one DET.INTERP is linear, rounded down (R124). -/
theorem detInterp_knot_add (c : Config) {k r : Nat} (hk : k < 32) (hr : r < 32) :
    detInterp c (32 * k + r) = c.detuneCurve[k].toNat +
      (c.detuneCurve[k + 1].toNat - c.detuneCurve[k].toNat) * r / 32 := by
  have hdiv : (32 * k + r) / 32 = k := by omega
  have hmod : (32 * k + r) % 32 = r := by omega
  simp only [detInterp, hdiv, hmod, readDetune_inside c (Nat.lt_succ_of_lt hk), readDetune_inside c (Nat.succ_lt_succ hk)]

theorem detInterp_knot (c : Config) {k : Nat} (hk : k < 32) : detInterp c (32 * k) = c.detuneCurve[k].toNat :=
  (detInterp_knot_add c hk (Nat.zero_lt_succ 31)).trans (by rw [Nat.mul_zero, Nat.zero_div, Nat.add_zero])

/-- A part of the way up does not pass the next knot. -/
theorem detInterp_le_next_knot {c : Config} (hrise : c.curveRises = true) {k r : Nat} (hk : k < 32) (hr : r < 32) :
    detInterp c (32 * k + r) ≤ c.detuneCurve[k + 1].toNat := by
  rw [detInterp_knot_add c hk hr]
  have hpart : (c.detuneCurve[k + 1].toNat - c.detuneCurve[k].toNat) * r / 32 ≤
      c.detuneCurve[k + 1].toNat - c.detuneCurve[k].toNat :=
    Nat.div_le_of_le_mul (by rw [Nat.mul_comm 32]; exact Nat.mul_le_mul_left _ hr.le)
  have hnext := knot_le_next hrise hk
  omega

theorem detInterp_le_succ {c : Config} (hrise : c.curveRises = true) {d : Nat} (hd : d < 1023) :
    detInterp c d ≤ detInterp c (d + 1) := by
  obtain ⟨k, r, hr, rfl⟩ : ∃ k r, r < 32 ∧ d = 32 * k + r :=
    ⟨d / 32, d % 32, Nat.mod_lt _ (Nat.zero_lt_succ 31), (Nat.div_add_mod d 32).symm⟩
  have hk : k < 32 := by omega
  rcases Nat.lt_or_ge (r + 1) 32 with hinside | hknot
  · rw [Nat.add_assoc, detInterp_knot_add c hk hr, detInterp_knot_add c hk hinside]
    exact Nat.add_le_add_left (Nat.div_le_div_right (Nat.mul_le_mul_left _ (Nat.le_succ r))) _
  · have hnext : 32 * k + r + 1 = 32 * (k + 1) := by omega
    rw [hnext, detInterp_knot c (by omega)]
    exact detInterp_le_next_knot hrise hk hr

theorem detInterp_le_of_le {c : Config} (hrise : c.curveRises = true) {d e : Nat} (hde : d ≤ e) (he : e ≤ 1023) :
    detInterp c d ≤ detInterp c e := by
  induction e, hde using Nat.le_induction with
  | base => exact Nat.le_refl _
  | succ e hde ih => exact (ih (Nat.le_of_succ_le he)).trans (detInterp_le_succ hrise he)

theorem detInterp_le_last_knot {c : Config} (hrise : c.curveRises = true) {d : Nat} (hd : d ≤ 1023) :
    detInterp c d ≤ c.detuneCurve[32].toNat := by
  have hk : d / 32 < 32 := by omega
  rw [← Nat.div_add_mod d 32]
  exact (detInterp_le_next_knot hrise hk (Nat.mod_lt _ (Nat.zero_lt_succ 31))).trans (knot_le_last hrise hk)

/-- Settles O27: DET.INTERP is linear between knots that rise, so it meets each knot and passes none early. -/
theorem detuneCurveIsExactAtKnotsAndRises : Obligations.DetuneCurveIsExactAtKnotsAndRises := by
  intro c hwf
  have hrise := curveRises_of_wf hwf
  exact ⟨fun k => detInterp_knot c k.isLt, fun _ => detInterp_le_succ hrise, fun _ => detInterp_le_last_knot hrise⟩

theorem detInterp_zero {c : Config} (hwf : c.wf = true) : detInterp c 0 = 0 :=
  (detInterp_knot c (Nat.zero_lt_succ 31)).trans (congrArg BitVec.toNat (curve_zero hwf))

theorem detunedIncrement_zero {c : Config} (hwf : c.wf = true) (base : U16) : detunedIncrement c base 0 = base := by
  apply BitVec.eq_of_toNat_eq
  rw [detunedIncrement_toNat, detInterp_zero hwf, Nat.mul_zero, Nat.zero_div, Nat.add_zero,
    Nat.mod_eq_of_lt base.isLt]

theorem pollCtrl_incs (p d : U10) (s : State) :
    (pollCtrl p d s).inc1 = (ctrlEval p d s).stgInc1 ∧ (pollCtrl p d s).inc2 = (ctrlEval p d s).stgInc2 := ⟨rfl, rfl⟩

/-- Settles O28: the curve starts at 0, so the offset of a zero detune is 0 for every base. -/
theorem zeroDetuneIsUnison : Obligations.ZeroDetuneIsUnison := by
  intro p d s hwf hzero
  have hstaged : (ctrlEval p d s).stgInc2 = (ctrlEval p d s).stgInc1 := by
    rw [ctrlEval_stgInc2, hzero, detunedIncrement_zero hwf]
  obtain ⟨hinc1, hinc2⟩ := pollCtrl_incs p d s
  exact ⟨⟨_, exec_eq_after _ _, hstaged⟩, _, exec_eq_after _ _, hinc2.trans (hstaged.trans hinc1.symm)⟩

theorem default_curveRises {c : Config} (h : c.detuneCurve = defaultDetuneCurve) : c.curveRises = true := by
  rw [curveRises_iff, h]
  decide

/-- With the default curve the full detune is 511 of 1024 parts. -/
theorem default_detInterp_full {c : Config} (h : c.detuneCurve = defaultDetuneCurve) : detInterp c 1023 = 511 := by
  rw [show 1023 = 32 * 31 + 31 from rfl, detInterp_knot_add c (by decide) (by decide), h]
  decide

/-- The default notes: their range, and that 511 parts of 1024 are at least 106 parts of 214, rounded down as the
offset is. -/
theorem default_note_bounds : ∀ k : Fin 73, 214 ≤ defaultNoteTable[k.val].toNat ∧
    defaultNoteTable[k.val].toNat ≤ 13717 ∧
    320 * defaultNoteTable[k.val].toNat ≤
      214 * (defaultNoteTable[k.val].toNat + defaultNoteTable[k.val].toNat * 511 / 1024) := by decide

/-- A base increment within the default range, detuned by at most 511 parts of 1024, does not wrap. -/
theorem detunedIncrement_bounds {c : Config} {base : U16} {d : Nat} (hbase : base.toNat ≤ 13717)
    (hpart : detInterp c d ≤ 511) :
    (detunedIncrement c base d).toNat = base.toNat + base.toNat * detInterp c d / 1024 ∧
    (detunedIncrement c base d).toNat ≤ 20562 := by
  have hproduct : base.toNat * detInterp c d ≤ 13717 * 511 := Nat.mul_le_mul hbase hpart
  rw [detunedIncrement_toNat]
  omega

/-- Settles O29: the staged base is a default note, and the default curve ends at 511 parts of 1024. -/
theorem defaultTablesBoundTheIncrements : Obligations.DefaultTablesBoundTheIncrements := by
  intro p d s hnotes hcurve hacc
  have hnote : quant (smoothed (ctrlEval p d s)) < 73 :=
    Nat.lt_succ_of_le (quant_le (smoothed_le (ctrlEval_emaAcc_le p d hacc)))
  have hbase : (ctrlEval p d s).stgInc1 = defaultNoteTable[quant (smoothed (ctrlEval p d s))] := by
    rw [ctrlEval_stgInc1, baseIncrement_eq _ hnote]
    simp only [hnotes]
  obtain ⟨hlow, hhigh, hratio⟩ := default_note_bounds ⟨_, hnote⟩
  rw [← hbase] at hlow hhigh hratio
  have hpart : detInterp s.cfg (rescale s.cfg d) ≤ 511 :=
    (detInterp_le_of_le (default_curveRises hcurve) (rescale_le _ _) (Nat.le_refl _)).trans
      (default_detInterp_full hcurve).le
  obtain ⟨hexact, hmax⟩ := detunedIncrement_bounds hhigh hpart
  rw [← ctrlEval_stgInc2] at hexact hmax
  refine ⟨ctrlEval p d s, exec_eq_after _ _, hlow, hhigh, by omega, hmax, fun hfull => ?_⟩
  rw [hfull, default_detInterp_full hcurve] at hexact
  omega

end Sys2Proof.Machine

/-! SUPPORT. How far the accumulator is from a constant reading, and that each evaluation brings it nearer
(41_control_mapper.md R121). -/

namespace Sys2Proof.Machine

/-- The distance of an accumulator from the 16 values that stand for the reading v. -/
def emaDistance (v acc : Nat) : Nat := (16 * v - acc) + (acc - (16 * v + 15))

theorem emaDistance_eq_zero_iff (v acc : Nat) : emaDistance v acc = 0 ↔ acc / 16 = v := by
  unfold emaDistance
  omega

theorem emaDistance_lt {v acc : Nat} (hv : v ≤ 1023) (hacc : acc ≤ 16383) : emaDistance v acc < 16384 := by
  unfold emaDistance
  omega

/-- SMOOTH moves the accumulator towards the reading and never past it; the first one lands there at once. -/
theorem emaDistance_smoothAcc {s : State} {v : Nat} (hv : v ≤ 1023) (hacc : s.emaAcc.toNat ≤ 16383) :
    emaDistance v (smoothAcc s v).toNat ≤ emaDistance v s.emaAcc.toNat - 1 := by
  rw [smoothAcc_toNat hv hacc]
  unfold emaDistance
  split <;> omega

theorem emaDistance_iterate_ctrlEval (p d : U10) {s : State} (hacc : s.emaAcc.toNat ≤ 16383) (n : Nat) :
    ((ctrlEval p d)^[n] s).cfg = s.cfg ∧ ((ctrlEval p d)^[n] s).emaAcc.toNat ≤ 16383 ∧
    emaDistance (rescale s.cfg p) ((ctrlEval p d)^[n] s).emaAcc.toNat ≤
      emaDistance (rescale s.cfg p) s.emaAcc.toNat - n := by
  induction n with
  | zero => exact ⟨rfl, hacc, Nat.le_refl _⟩
  | succ n ih =>
    obtain ⟨hcfg, hbound, hnear⟩ := ih
    rw [Function.iterate_succ_apply']
    refine ⟨hcfg, ctrlEval_emaAcc_le p d hbound, ?_⟩
    have hstep := emaDistance_smoothAcc (rescale_le s.cfg p) hbound
    rw [ctrlEval_emaAcc, hcfg]
    omega

/-- Settles O30: the distance is below 16384 and every evaluation takes at least one off until none is left. -/
theorem smoothedPitchReachesAConstantReading : Obligations.SmoothedPitchReachesAConstantReading := by
  intro n p d s hacc hn
  obtain ⟨-, -, hnear⟩ := emaDistance_iterate_ctrlEval p d hacc n
  have hfar := emaDistance_lt (rescale_le s.cfg p) hacc
  have hnone : emaDistance (rescale s.cfg p) ((ctrlEval p d)^[n] s).emaAcc.toNat = 0 := by omega
  exact ⟨_, runInstrs_replicate _ n s, (emaDistance_eq_zero_iff _ _).1 hnone⟩

end Sys2Proof.Machine

/-! SUPPORT. The maximum of virtual-button values (30_encoding.md R81). -/

namespace Sys2Proof

theorem Button.none_max (b : Button) : Button.none.max b = b := by cases b <;> rfl

theorem Button.max_none (b : Button) : b.max Button.none = b := by cases b <;> rfl

theorem Button.max_assoc (a b c : Button) : (a.max b).max c = a.max (b.max c) := by
  cases a <;> cases b <;> cases c <;> rfl

/-- The peak kept poll by poll is the largest value of the list. -/
theorem Button.foldl_max_eq (b : Button) (bs : List Button) :
    bs.foldl Button.max b = b.max (Machine.peakOf bs) := by
  induction bs generalizing b with
  | nil => exact (Button.max_none b).symm
  | cons c cs ih => rw [List.foldl_cons, ih, Button.max_assoc]; rfl

end Sys2Proof

/-! SUPPORT. The release of a press, whole presses, and what a run of operations makes of SHAPE
(42_gesture_detector.md R143 to R147). -/

namespace Sys2Proof.Machine

theorem gestResult_of_released {v : U10} {s : State} (h : s.gPhase = .pressed) (hv : s.cfg.vRelease < v.toNat) :
    gestResult v s = s.gPeak := by
  simp only [gestResult, h, reading, hv, if_true]

theorem gestStep_of_released {v : U10} {s : State} (h : s.gPhase = .pressed) (hv : s.cfg.vRelease < v.toNat) :
    gestStep v s = { s with gPhase := .notPressed } := by
  simp only [gestStep, h, reading, hv, if_true, gestReleased, State.setGPhase]

/-- A release poll, whatever the peak: the result, FB before it on any peak but none, and SHAPE (R143, R144). -/
theorem pollGest_of_released {v : U10} {s : State} (h : s.gPhase = .pressed) (hv : s.cfg.vRelease < v.toNat) :
    pollGest v s = { s with
      gPhase := .notPressed
      shape := if s.gPeak = .none then s.shape else BitVec.ofNat 8 ((s.shape.toNat + 1) % 4)
      events := s.events ++ ((if s.gPeak = .none then [] else [.feedback (BitVec.ofNat 2 (s.shape.toNat + 1))]) ++
        [.gesture s.gPeak]) } := by
  have hresult := gestResult_of_released h hv
  by_cases hpeak : s.gPeak = .none
  · rw [pollGest_of_result_none (hresult.trans hpeak), gestStep_of_released h hv, if_pos hpeak, if_pos hpeak, hpeak]
    rfl
  · rw [pollGest_of_result_ne_none (hresult ▸ hpeak), gestStep_of_released h hv, if_neg hpeak, if_neg hpeak, hresult]
    rfl

/-- Settles O43: the result of a release is the peak, and a poll confirms any result but none. -/
theorem releasePollEmitsThePeakAndAdvancesTheShape : Obligations.ReleasePollEmitsThePeakAndAdvancesTheShape := by
  intro v s hphase hv
  rw [exec_eq_after, after, pollGest_of_released hphase hv]
  refine ⟨fun hpeak => ?_, fun hpeak => ?_⟩
  · rw [if_pos hpeak, if_pos hpeak, hpeak]; rfl
  · rw [if_neg hpeak, if_neg hpeak]; rfl

/-- A poll in NotPressed at or above V_PRESS (R141). -/
theorem pollGest_of_idle {v : U10} {s : State} (h : s.gPhase = .notPressed) (hv : s.cfg.vPress ≤ v.toNat) :
    pollGest v s = { s with gPeak := .none, events := s.events ++ [.gesture .none] } := by
  rw [pollGest_of_result_none (gestResult_of_notPressed v h), gestStep_of_notPressed v h, gestNotPressed_of_ge hv]
  rfl

theorem gestureResults_emit_none (es : List Event) :
    gestureResults (es ++ [.gesture .none]) = gestureResults es ++ [.none] := gestureResults_append _ _

theorem feedbackShapes_emit_none (es : List Event) :
    feedbackShapes (es ++ [.gesture .none]) = feedbackShapes es :=
  (feedbackShapes_append _ _).trans (List.append_nil _)

/-- Settles O44: by induction on the readings, each poll of which only clears G_PEAK and returns none. -/
theorem voltageAboveThePressThresholdNeverGestures : Obligations.VoltageAboveThePressThresholdNeverGestures := by
  intro vs
  induction vs with
  | nil => exact fun s hphase _ => ⟨s, rfl, hphase, rfl, (List.append_nil _).symm, rfl⟩
  | cons v vs ih =>
    intro s hphase hvs
    obtain ⟨hv, hvs⟩ := List.forall_mem_cons.1 hvs
    obtain ⟨t, hrun, htPhase, htShape, htResults, htShapes⟩ :=
      ih { s with gPeak := .none, events := s.events ++ [.gesture .none] } hphase hvs
    refine ⟨t, ?_, htPhase, htShape, ?_, ?_⟩
    · rw [List.map_cons, runInstrs_cons, after, pollGest_of_idle hphase hv, hrun]
    · rw [htResults, gestureResults_emit_none, ← List.append_cons]; rfl
    · rw [htShapes, feedbackShapes_emit_none]

/-- The state inside a press that began in `s`: the peak so far, and n polls that returned none. -/
def State.inPress (s : State) (peak : Button) (n : Nat) : State :=
  { s with gPhase := .pressed, gPeak := peak, events := s.events ++ List.replicate n (.gesture .none) }

/-- A poll in NotPressed below V_PRESS begins a press (R141). -/
theorem pollGest_of_entry {v : U10} {s : State} (h : s.gPhase = .notPressed) (hv : v.toNat < s.cfg.vPress) :
    pollGest v s = s.inPress (entryPeak s.cfg v) 1 := by
  rw [pollGest_of_result_none (gestResult_of_notPressed v h), gestStep_of_notPressed v h, gestNotPressed_of_lt hv]
  rfl

/-- A poll in Pressed at or below V_RELEASE keeps the maximum (R142). -/
theorem pollGest_inPress {v : U10} {s : State} (hv : v.toNat ≤ s.cfg.vRelease) (peak : Button) (n : Nat) :
    pollGest v (s.inPress peak n) = s.inPress (peak.max (classify s.cfg v)) (n + 1) := by
  have hphase : (s.inPress peak n).gPhase = .pressed := rfl
  rw [pollGest_of_result_none (gestResult_of_held hphase hv), gestStep_of_held hphase hv, gestHeld, State.inPress,
    State.inPress, List.replicate_succ', ← List.append_assoc]
  rfl

theorem runInstrs_held {held : List U10} {s : State} (hheld : ∀ v ∈ held, v.toNat ≤ s.cfg.vRelease) (peak : Button)
    (n : Nat) : runInstrs (held.map .pollGest) (s.inPress peak n) =
      .next (s.inPress ((held.map (classify s.cfg)).foldl Button.max peak) (n + held.length)) := by
  induction held generalizing peak n with
  | nil => rfl
  | cons v vs ih =>
    obtain ⟨hv, hvs⟩ := List.forall_mem_cons.1 hheld
    rw [List.map_cons, runInstrs_cons, after, pollGest_inPress hv, ih hvs, List.length_cons, Nat.add_right_comm]
    rfl

/-- The largest class of a press: the entry reading's, where it counts, and those of the held readings (R142). -/
theorem foldl_max_entryPeak (c : Config) (entry : U10) (bs : List Button) :
    bs.foldl Button.max (entryPeak c entry) =
      peakOf ((if c.classifyOnEntry then [classify c entry] else []) ++ bs) := by
  rw [Button.foldl_max_eq, entryPeak]
  split
  · rfl
  · exact Button.none_max _

/-- A whole press: entry, held readings and the release poll from the state they leave. -/
theorem runInstrs_press {entry release : U10} {held : List U10} {s : State} (hphase : s.gPhase = .notPressed)
    (hentry : entry.toNat < s.cfg.vPress) (hheld : ∀ v ∈ held, v.toNat ≤ s.cfg.vRelease) :
    runInstrs (.pollGest entry :: (held.map .pollGest ++ [.pollGest release])) s = .next (pollGest release
      (s.inPress (peakOf ((if s.cfg.classifyOnEntry then [classify s.cfg entry] else []) ++
        held.map (classify s.cfg))) (held.length + 1))) := by
  rw [runInstrs_cons, after, pollGest_of_entry hphase hentry, runInstrs_append_of_next (runInstrs_held hheld _ _),
    foldl_max_entryPeak, Nat.add_comm 1, runInstrs_cons, runInstrs_nil, after]

theorem gestureResults_replicate_none (n : Nat) :
    gestureResults (List.replicate n (.gesture .none)) = List.replicate n .none := by
  induction n with
  | zero => rfl
  | succ n ih => rw [List.replicate_succ, gestureResults, ih, List.replicate_succ]

theorem feedbackShapes_replicate_gesture (n : Nat) (b : Button) :
    feedbackShapes (List.replicate n (.gesture b)) = [] := by
  induction n with
  | zero => rfl
  | succ n ih => rw [List.replicate_succ, feedbackShapes, ih]

theorem gestureResults_release (peak : Button) (c : BitVec 2) :
    gestureResults ((if peak = .none then [] else [.feedback c]) ++ [.gesture peak]) = [peak] := by
  split <;> rfl

theorem feedbackShapes_release (peak : Button) (c : BitVec 2) :
    feedbackShapes ((if peak = .none then [] else [.feedback c]) ++ [.gesture peak]) =
      if peak = .none then [] else [c] := by
  split <;> rfl

/-- Settles O45: the events of a whole press are one none for each poll but the last, and the peak's confirmation and
result. -/
theorem aPressReportsTheMaximumOfItsReadings : Obligations.APressReportsTheMaximumOfItsReadings := by
  intro entry release held s _ hphase hentry hheld hrelease
  refine ⟨_, _, runInstrs_press hphase hentry hheld, rfl, ?_⟩
  generalize peakOf _ = peak
  rw [pollGest_of_released (s := s.inPress peak (held.length + 1)) rfl hrelease]
  refine ⟨?_, rfl, rfl, rfl, ?_⟩
  · rw [gestureResults_append, gestureResults_release, State.inPress, gestureResults_append,
      gestureResults_replicate_none]
  · rw [feedbackShapes_append, feedbackShapes_release, State.inPress, feedbackShapes_append,
      feedbackShapes_replicate_gesture, List.append_nil]

theorem confirmedGestures_append (a b : List Event) :
    confirmedGestures (a ++ b) = confirmedGestures a + confirmedGestures b := by
  simp only [confirmedGestures, gestureResults_append, List.filter_append, List.length_append]

/-- How many gestures an operation confirms: one if it is a poll with a result other than none. -/
def confirmations (i : Instr) (s : State) : Nat :=
  match i with
  | .pollGest v => if gestResult v s = .none then 0 else 1
  | _ => 0

/-- A poll confirms a gesture, emits FB and moves SHAPE on all at once or does none of the three (R144 to R146). -/
theorem pollGest_confirms (v : U10) {s : State} (hshape : s.shape.toNat < 4) :
    confirmedGestures (pollGest v s).events = confirmedGestures s.events + confirmations (.pollGest v) s ∧
    (feedbackShapes (pollGest v s).events).length =
      (feedbackShapes s.events).length + confirmations (.pollGest v) s ∧
    (pollGest v s).shape.toNat = (s.shape.toNat + confirmations (.pollGest v) s) % 4 := by
  rw [pollGest_events, pollGest_shape, confirmedGestures_append, feedbackShapes_append, List.length_append,
    confirmations]
  split
  case isTrue hnone =>
    rw [hnone]
    exact ⟨rfl, rfl, (Nat.mod_eq_of_lt hshape).symm⟩
  case isFalse hsome =>
    refine ⟨?_, rfl, ?_⟩
    · simp [confirmedGestures, gestureResults, hsome]
    · rw [BitVec.toNat_ofNat]
      omega

theorem after_confirms {i : Instr} (hreset : i ≠ .reset) {s : State} (hshape : s.shape.toNat < 4) :
    confirmedGestures (after i s).events = confirmedGestures s.events + confirmations i s ∧
    (feedbackShapes (after i s).events).length = (feedbackShapes s.events).length + confirmations i s ∧
    (after i s).shape.toNat = (s.shape.toNat + confirmations i s) % 4 := by
  have hquiet : ∀ u : State, u.events = s.events → u.shape = s.shape →
      confirmedGestures u.events = confirmedGestures s.events ∧
      (feedbackShapes u.events).length = (feedbackShapes s.events).length ∧
      u.shape.toNat = s.shape.toNat % 4 := by
    intro u hevents hshape'
    rw [hevents, hshape', Nat.mod_eq_of_lt hshape]
    exact ⟨rfl, rfl, rfl⟩
  cases i with
  | reset => exact absurd rfl hreset
  | pollGest v => exact pollGest_confirms v hshape
  | wrInc1 => exact hquiet _ (publish_events s .one) (publish_gesture s .one).1
  | wrInc2 => exact hquiet _ (publish_events s .two) (publish_gesture s .two).1
  | tick | rdTicks =>
    refine ⟨confirmedGestures_append _ _, ?_, (Nat.mod_eq_of_lt hshape).symm⟩
    exact congrArg List.length ((feedbackShapes_append _ _).trans (List.append_nil _))
  | _ => exact hquiet _ rfl rfl

/-- Settles O46: the confirmations of the operations add up along the run, and SHAPE stays below 4. -/
theorem shapeCountsTheConfirmedGestures : Obligations.ShapeCountsTheConfirmedGestures := by
  intro is
  induction is with
  | nil => exact fun s _ hshape => ⟨s, 0, rfl, rfl, rfl, (Nat.mod_eq_of_lt hshape).symm⟩
  | cons i is ih =>
    intro s hreset hshape
    obtain ⟨hi, his⟩ := List.forall_mem_cons.1 hreset
    obtain ⟨hcount, hfeedback, hmoved⟩ := after_confirms hi hshape
    obtain ⟨t, n, hrun, htCount, htFeedback, htShape⟩ := ih (after i s) his (by omega)
    exact ⟨t, confirmations i s + n, (runInstrs_cons i is s).trans hrun, by omega, by omega, by omega⟩

end Sys2Proof.Machine
